-- ==== Sys2Proof/Word.lean ====
section
/-! DEFINITION. The words of the machine: bytes, 32-bit words, XLEN-bit values in their 64-bit home,
register numbers and CSR addresses (spec/00_scope.md R12, spec/10_state.md R21, R35). -/

namespace Sys2Proof

/-- A byte: bits 8k+7 down to 8k of a value (R12). -/
abbrev Byte := BitVec 8

/-- A 32-bit word: an instruction word, or the low word of a register. -/
abbrev Word32 := BitVec 32

/-- The home of an XLEN-bit value. On RV32 the value is the low 32 bits and the rest is 0
(DESIGN CHOICE, safe: notes/assumptions/2.md). -/
abbrev XWord := BitVec 64

/-- A 5-bit register number, 0 to 31 (R21). -/
abbrev Reg := BitVec 5

/-- A 12-bit CSR address, `inst[31:20]` (R35). -/
abbrev CsrAddr := BitVec 12

end Sys2Proof
end

