-- ==== Sys2Proof/Config.lean ====
section
/-! DEFINITION. What an implementation fixes (spec/00_scope.md R2, R3, R11) and the free values.
A `Config` is plain data and a field of State that no step changes, so a statement about every state
is a statement about every implementation (DESIGN CHOICE, safe: notes/assumptions/1.md). The free
values are one opaque constant without a body (notes/assumptions/8.md). -/

namespace Sys2Proof

/-- The base width, `XLEN` (R11; spec/92_eei_decisions.md D1). -/
inductive Xlen where
  | rv32
  | rv64
deriving DecidableEq, Repr

/-- `XLEN` as a number. -/
def Xlen.bits : Xlen → Nat
  | .rv32 => 32
  | .rv64 => 64

/-- The ten extensions in scope (R2). -/
inductive ExtName where
  | zbkb | zbkc | zbkx | zknd | zkne | zknh | zksed | zksh | zkr | zkt
deriving DecidableEq, Repr

/-- The minimum version the source's "Included in" tables print, where one exists (R2; the spellings
carry no meaning, spec/90_conflicts.md C16). -/
def ExtName.minVersion : ExtName → Option String
  | .zbkb | .zbkc | .zbkx => some "v1.0.0-rc4"
  | .zknd | .zkne | .zknh | .zksed | .zksh => some "v1.0.0"
  | .zkr | .zkt => none

/-- The shorthand names (R3). -/
inductive Shorthand where
  | zkn | zks | zk
deriving DecidableEq, Repr

/-- What a shorthand expands to (R3). `zk` holds `zkr`, as R3 and the opcode table say and against a
sentence of R200 (DEDUCED, safe: notes/assumptions/26.md). -/
def Shorthand.expand : Shorthand → List ExtName
  | .zkn => [.zbkb, .zbkc, .zbkx, .zkne, .zknd, .zknh]
  | .zks => [.zbkb, .zbkc, .zbkx, .zksed, .zksh]
  | .zk => [.zbkb, .zbkc, .zbkx, .zkne, .zknd, .zknh, .zkr, .zkt]

/-- `EXT`: which of the ten extensions are implemented (R11; D2). -/
structure Ext where
  zbkb : Bool
  zbkc : Bool
  zbkx : Bool
  zknd : Bool
  zkne : Bool
  zknh : Bool
  zksed : Bool
  zksh : Bool
  zkr : Bool
  zkt : Bool
deriving DecidableEq, Repr

/-- Membership in `EXT`. -/
def Ext.has (e : Ext) : ExtName → Bool
  | .zbkb => e.zbkb
  | .zbkc => e.zbkc
  | .zbkx => e.zbkx
  | .zknd => e.zknd
  | .zkne => e.zkne
  | .zknh => e.zknh
  | .zksed => e.zksed
  | .zksh => e.zksh
  | .zkr => e.zkr
  | .zkt => e.zkt

/-- The set of extensions in a list of names. -/
def Ext.ofList (l : List ExtName) : Ext where
  zbkb := l.contains .zbkb
  zbkc := l.contains .zbkc
  zbkx := l.contains .zbkx
  zknd := l.contains .zknd
  zkne := l.contains .zkne
  zknh := l.contains .zknh
  zksed := l.contains .zksed
  zksh := l.contains .zksh
  zkr := l.contains .zkr
  zkt := l.contains .zkt

/-- A hart implements a shorthand exactly when it implements every extension of its union (R3). -/
def Ext.implements (e : Ext) (h : Shorthand) : Bool :=
  h.expand.all e.has

/-- All ten extensions. -/
def Ext.all : Ext where
  zbkb := true
  zbkc := true
  zbkx := true
  zknd := true
  zkne := true
  zknh := true
  zksed := true
  zksh := true
  zkr := true
  zkt := true

/-- The requirement set a physical entropy source claims to meet (spec/45_zkr_seed.md R225, R226). -/
inductive EsStandard where
  | sp80090b
  | ais31Ptg2
deriving DecidableEq, Repr

/-- `ES_KIND` (R11). A virtual source has a security strength in bits (R227) and need not implement
`WAIT` or `BIST` (R212). -/
inductive EsKind where
  | physical (standard : EsStandard)
  | virtualDrbg (strength : Nat) (hasWait hasBist : Bool)
deriving DecidableEq, Repr

/-- The parameters of R11, with those of D7 (`tval`), D9 (the C extension) and R217 (`mseccfgh`). -/
structure Config where
  /-- `XLEN`. -/
  xlen : Xlen
  /-- `EXT`. -/
  ext : Ext
  /-- `HAS_S`: S mode exists. -/
  hasS : Bool
  /-- `HAS_U`: U mode exists. -/
  hasU : Bool
  /-- `HAS_H`: the hypervisor extension, hence VS and VU, exists. -/
  hasH : Bool
  /-- `SSEED_WRITABLE`. -/
  sseedWritable : Bool
  /-- `USEED_WRITABLE`. -/
  useedWritable : Bool
  /-- `SSEED_RESET`. -/
  sseedReset : Bool
  /-- `USEED_RESET`. -/
  useedReset : Bool
  /-- `ES_KIND`. -/
  esKind : EsKind
  /-- `SEED_AUX_ZERO`. -/
  seedAuxZero : Bool
  /-- `MNOISE`: absent, or its CSR address. -/
  mnoise : Option CsrAddr
  /-- `CAUSE_ILLEGAL` (PRESUMED 2 in the default: notes/assumptions/14.md). -/
  causeIllegal : Nat
  /-- `CAUSE_VIRTUAL` (PRESUMED 22 in the default: notes/assumptions/14.md). -/
  causeVirtual : Nat
  /-- Whether the recorded trap value is the instruction word (true) or 0 (R255; D7). -/
  tvalIsInst : Bool
  /-- `MSECCFG_ADDR` (PRESUMED 0x747 in the default: notes/assumptions/15.md). -/
  mseccfgAddr : CsrAddr
  /-- The address of `mseccfgh` on RV32 (PRESUMED 0x757 in the default: notes/assumptions/15.md). -/
  mseccfghAddr : CsrAddr
  /-- Another processor feature requires `mseccfg` (spec/10_state.md R32 (d)). -/
  mseccfgOther : Bool
  /-- `RESET_PC`. -/
  resetPc : XWord
  /-- The base machine has the C extension: `pc` is a multiple of 2 and not of 4 (D9). -/
  hasC : Bool
deriving DecidableEq, Repr

/-- The one configuration `State.reset` has: that of program P6 of spec/95_test_vectors.md, with all
ten extensions (DESIGN CHOICE, unsafe: notes/assumptions/1.md and notes/assumptions/4.md). Two values are
not P6's but the model's own (DESIGN CHOICE: notes/assumptions/1.md): no C extension, so `pc` is a
multiple of 4 (D9 leaves it to the base machine), and SP 800-90B as the requirement set of the physical
source (spec/93_implementation_defined.md U13 leaves it open). -/
def Config.default : Config where
  xlen := .rv64
  ext := .all
  hasS := true
  hasU := true
  hasH := false
  sseedWritable := true
  useedWritable := true
  sseedReset := false
  useedReset := false
  esKind := .physical .sp80090b
  seedAuxZero := true
  mnoise := none
  causeIllegal := 2
  causeVirtual := 22
  tvalIsInst := true
  mseccfgAddr := 0x747
  mseccfghAddr := 0x757
  mseccfgOther := false
  resetPc := 0x80000000
  hasC := false

/-- The same implementation at another width. -/
def Config.withXlen (c : Config) (x : Xlen) : Config :=
  { c with xlen := x }

/-- `sseed` can be written (spec/10_state.md R32; spec/45_zkr_seed.md R216). -/
def Config.sseedIsWritable (c : Config) : Bool :=
  c.sseedWritable && c.hasS && c.ext.zkr

/-- `useed` can be written (R32; R216). -/
def Config.useedIsWritable (c : Config) : Bool :=
  c.useedWritable && c.hasU && c.ext.zkr

/-- `mseccfg` exists "if Zkr is implemented, or if another processor feature requires it" (R32 (d)). -/
def Config.mseccfgExists (c : Config) : Bool :=
  c.ext.zkr || c.mseccfgOther

/-- A virtual source below 256 bits of security must not be available (R227). -/
def EsKind.acceptable : EsKind → Bool
  | .physical _ => true
  | .virtualDrbg strength _ _ => decide (256 ≤ strength)

/-- The alignment of `pc`: 4, or 2 with the C extension (D9). -/
def Config.pcAlign (c : Config) : Nat :=
  if c.hasC then 2 else 4

/-- The configurations the spec accepts: those it refuses (spec/93_implementation_defined.md U6, U7;
R227) and those that could not be addressed or fetched from are left out (PRESUMED for `HAS_H`, D16:
notes/assumptions/31.md). -/
def Config.wf (c : Config) : Bool :=
  (!c.hasH || (c.hasS && c.hasU)) &&
  (!c.sseedWritable || c.hasS) && (!c.useedWritable || c.hasU) &&
  (!c.sseedReset || c.sseedIsWritable) && (!c.useedReset || c.useedIsWritable) &&
  (c.esKind.acceptable || !c.ext.zkr) &&
  decide (c.mseccfgAddr ≠ 0x015 ∧ c.mseccfghAddr ≠ 0x015 ∧ c.mnoise ≠ some 0x015 ∧
    c.mseccfgAddr ≠ c.mseccfghAddr ∧ c.mnoise ≠ some c.mseccfgAddr ∧ c.mnoise ≠ some c.mseccfghAddr) &&
  decide (c.resetPc.toNat < 2 ^ c.xlen.bits) && decide (c.resetPc.toNat % c.pcAlign = 0)

/-- What the environment supplies at one draw (spec/00_scope.md R13 `draw`): an index into the set of
allowed statuses (R206), the 16 bits of entropy (R207), the 14 reserved and custom bits (R209), and
whether a write form with `rd = x0` polls (R220). -/
structure Draw where
  status : Nat
  entropy : BitVec 16
  aux : BitVec 14
  discardPolls : Bool
deriving DecidableEq, Repr, Inhabited

/-- The free values: what the environment supplies at the n-th draw. It has no body: nothing in Lean
proves a value of it (DESIGN CHOICE, safe: notes/assumptions/8.md). -/
opaque Config.draw : Nat → Draw

/-- Bits 30:0 of a read of `mnoise`: unspecified (spec/45_zkr_seed.md R234), given by the uninterpreted read
function of spec/93_implementation_defined.md U11 and not by a draw (spec/60_exceptions.md R272). It has no
body. Its arguments are NOISE_TEST, the count of polls and `pc` (DESIGN CHOICE, unsafe:
notes/assumptions/12.md). -/
opaque Config.mnoiseRead : Bool → Nat → XWord → BitVec 31

/-- Entropy of one block of 256 output bits in bits: the min-entropy an SP 800-90B or PTG.2 source
must have (R225, R226). The model keeps the number and proves nothing from it
(notes/assumptions/34.md). -/
def EsStandard.minEntropyPer256 : EsStandard → Nat
  | .sp80090b => 192
  | .ais31Ptg2 => 192

/-- Shannon entropy per 1000 output bits where the standard asks for one (R226: rate 0.997). -/
def EsStandard.shannonPer1000 : EsStandard → Option Nat
  | .sp80090b => none
  | .ais31Ptg2 => some 997

/-- Successful polls that yield `n` bits of full entropy by 2-to-1 conditioning (R219, R224): at least
`2 n` bits, 16 a poll. -/
def pollsForFullEntropy (n : Nat) : Nat :=
  (2 * n + 15) / 16

end Sys2Proof
end

