-- ==== Sys2Proof/Syntax.lean ====
section
/-! DEFINITION. The instructions: one constructor per row of spec/opcode_table.json (57 rows: the 49
computational instructions of spec/00_scope.md R4, `rori` and `rev8` once per XLEN, and the six CSR
instructions). Operand fields are the encoding's own (spec/30_encoding.md R72 to R79). The CSR
instructions carry their 12-bit address, because R217, R234 and R272 (4) give them a meaning at
`mseccfg`, `mseccfgh` and `mnoise` beside `seed`. -/

namespace Sys2Proof

/-- An instruction. The docstring of a constructor names its format and the rule of its meaning. -/
inductive Instr where
  /-- `andn`: format R, RV32 and RV64, R101. -/
  | andn (rd rs1 rs2 : Reg)
  /-- `orn`: format R, RV32 and RV64, R102. -/
  | orn (rd rs1 rs2 : Reg)
  /-- `xnor`: format R, RV32 and RV64, R103. -/
  | xnor (rd rs1 rs2 : Reg)
  /-- `rol`: format R, RV32 and RV64, R104. -/
  | rol (rd rs1 rs2 : Reg)
  /-- `rolw`: format R, RV64, R105. -/
  | rolw (rd rs1 rs2 : Reg)
  /-- `ror`: format R, RV32 and RV64, R106. -/
  | ror (rd rs1 rs2 : Reg)
  /-- `rori`: format I-shamt5, RV32, R107. -/
  | roriRv32 (rd rs1 : Reg) (shamt : BitVec 5)
  /-- `rori`: format I-shamt6, RV64, R107. -/
  | roriRv64 (rd rs1 : Reg) (shamt : BitVec 6)
  /-- `roriw`: format I-shamt5, RV64, R108. -/
  | roriw (rd rs1 : Reg) (shamt : BitVec 5)
  /-- `rorw`: format R, RV64, R109. -/
  | rorw (rd rs1 rs2 : Reg)
  /-- `pack`: format R, RV32 and RV64, R110. -/
  | pack (rd rs1 rs2 : Reg)
  /-- `packh`: format R, RV32 and RV64, R111. -/
  | packh (rd rs1 rs2 : Reg)
  /-- `packw`: format R, RV64, R112. -/
  | packw (rd rs1 rs2 : Reg)
  /-- `brev8`: format I-unary, RV32 and RV64, R113. -/
  | brev8 (rd rs1 : Reg)
  /-- `rev8`: format I-unary, RV32, R114. -/
  | rev8Rv32 (rd rs1 : Reg)
  /-- `rev8`: format I-unary, RV64, R114. -/
  | rev8Rv64 (rd rs1 : Reg)
  /-- `zip`: format I-unary, RV32, R115. -/
  | zip (rd rs1 : Reg)
  /-- `unzip`: format I-unary, RV32, R116. -/
  | unzip (rd rs1 : Reg)
  /-- `clmul`: format R, RV32 and RV64, R131. -/
  | clmul (rd rs1 rs2 : Reg)
  /-- `clmulh`: format R, RV32 and RV64, R132. -/
  | clmulh (rd rs1 rs2 : Reg)
  /-- `xperm8`: format R, RV32 and RV64, R134. -/
  | xperm8 (rd rs1 rs2 : Reg)
  /-- `xperm4`: format R, RV32 and RV64, R135. -/
  | xperm4 (rd rs1 rs2 : Reg)
  /-- `aes32dsi`: format R-bs, RV32, R150. -/
  | aes32dsi (rd rs1 rs2 : Reg) (bs : BitVec 2)
  /-- `aes32dsmi`: format R-bs, RV32, R151. -/
  | aes32dsmi (rd rs1 rs2 : Reg) (bs : BitVec 2)
  /-- `aes32esi`: format R-bs, RV32, R152. -/
  | aes32esi (rd rs1 rs2 : Reg) (bs : BitVec 2)
  /-- `aes32esmi`: format R-bs, RV32, R153. -/
  | aes32esmi (rd rs1 rs2 : Reg) (bs : BitVec 2)
  /-- `aes64ds`: format R, RV64, R154. -/
  | aes64ds (rd rs1 rs2 : Reg)
  /-- `aes64dsm`: format R, RV64, R155. -/
  | aes64dsm (rd rs1 rs2 : Reg)
  /-- `aes64es`: format R, RV64, R156. -/
  | aes64es (rd rs1 rs2 : Reg)
  /-- `aes64esm`: format R, RV64, R157. -/
  | aes64esm (rd rs1 rs2 : Reg)
  /-- `aes64im`: format I-unary, RV64, R158. -/
  | aes64im (rd rs1 : Reg)
  /-- `aes64ks1i`: format I-rnum, RV64, R159. -/
  | aes64ks1i (rd rs1 : Reg) (rnum : BitVec 4)
  /-- `aes64ks2`: format R, RV64, R160. -/
  | aes64ks2 (rd rs1 rs2 : Reg)
  /-- `sha256sig0`: format I-unary, RV32 and RV64, R171. -/
  | sha256sig0 (rd rs1 : Reg)
  /-- `sha256sig1`: format I-unary, RV32 and RV64, R172. -/
  | sha256sig1 (rd rs1 : Reg)
  /-- `sha256sum0`: format I-unary, RV32 and RV64, R173. -/
  | sha256sum0 (rd rs1 : Reg)
  /-- `sha256sum1`: format I-unary, RV32 and RV64, R174. -/
  | sha256sum1 (rd rs1 : Reg)
  /-- `sha512sig0h`: format R, RV32, R175. -/
  | sha512sig0h (rd rs1 rs2 : Reg)
  /-- `sha512sig0l`: format R, RV32, R176. -/
  | sha512sig0l (rd rs1 rs2 : Reg)
  /-- `sha512sig1h`: format R, RV32, R177. -/
  | sha512sig1h (rd rs1 rs2 : Reg)
  /-- `sha512sig1l`: format R, RV32, R178. -/
  | sha512sig1l (rd rs1 rs2 : Reg)
  /-- `sha512sum0r`: format R, RV32, R179. -/
  | sha512sum0r (rd rs1 rs2 : Reg)
  /-- `sha512sum1r`: format R, RV32, R180. -/
  | sha512sum1r (rd rs1 rs2 : Reg)
  /-- `sha512sig0`: format I-unary, RV64, R181. -/
  | sha512sig0 (rd rs1 : Reg)
  /-- `sha512sig1`: format I-unary, RV64, R182. -/
  | sha512sig1 (rd rs1 : Reg)
  /-- `sha512sum0`: format I-unary, RV64, R183. -/
  | sha512sum0 (rd rs1 : Reg)
  /-- `sha512sum1`: format I-unary, RV64, R184. -/
  | sha512sum1 (rd rs1 : Reg)
  /-- `sm4ed`: format R-bs, RV32 and RV64, R192. -/
  | sm4ed (rd rs1 rs2 : Reg) (bs : BitVec 2)
  /-- `sm4ks`: format R-bs, RV32 and RV64, R193. -/
  | sm4ks (rd rs1 rs2 : Reg) (bs : BitVec 2)
  /-- `sm3p0`: format I-unary, RV32 and RV64, R195. -/
  | sm3p0 (rd rs1 : Reg)
  /-- `sm3p1`: format I-unary, RV32 and RV64, R196. -/
  | sm3p1 (rd rs1 : Reg)
  /-- `csrrw`: format CSR, RV32 and RV64, R203. -/
  | csrrw (rd : Reg) (csr : CsrAddr) (rs1 : Reg)
  /-- `csrrs`: format CSR, RV32 and RV64, R203. -/
  | csrrs (rd : Reg) (csr : CsrAddr) (rs1 : Reg)
  /-- `csrrc`: format CSR, RV32 and RV64, R203. -/
  | csrrc (rd : Reg) (csr : CsrAddr) (rs1 : Reg)
  /-- `csrrwi`: format CSR, RV32 and RV64, R203. -/
  | csrrwi (rd : Reg) (csr : CsrAddr) (uimm : BitVec 5)
  /-- `csrrsi`: format CSR, RV32 and RV64, R203. -/
  | csrrsi (rd : Reg) (csr : CsrAddr) (uimm : BitVec 5)
  /-- `csrrci`: format CSR, RV32 and RV64, R203. -/
  | csrrci (rd : Reg) (csr : CsrAddr) (uimm : BitVec 5)
deriving DecidableEq, Repr

/-- The mnemonic of spec/opcode_table.json (R91). -/
def Instr.mnemonic : Instr → String
  | .andn .. => "andn"
  | .orn .. => "orn"
  | .xnor .. => "xnor"
  | .rol .. => "rol"
  | .rolw .. => "rolw"
  | .ror .. => "ror"
  | .roriRv32 .. => "rori"
  | .roriRv64 .. => "rori"
  | .roriw .. => "roriw"
  | .rorw .. => "rorw"
  | .pack .. => "pack"
  | .packh .. => "packh"
  | .packw .. => "packw"
  | .brev8 .. => "brev8"
  | .rev8Rv32 .. => "rev8"
  | .rev8Rv64 .. => "rev8"
  | .zip .. => "zip"
  | .unzip .. => "unzip"
  | .clmul .. => "clmul"
  | .clmulh .. => "clmulh"
  | .xperm8 .. => "xperm8"
  | .xperm4 .. => "xperm4"
  | .aes32dsi .. => "aes32dsi"
  | .aes32dsmi .. => "aes32dsmi"
  | .aes32esi .. => "aes32esi"
  | .aes32esmi .. => "aes32esmi"
  | .aes64ds .. => "aes64ds"
  | .aes64dsm .. => "aes64dsm"
  | .aes64es .. => "aes64es"
  | .aes64esm .. => "aes64esm"
  | .aes64im .. => "aes64im"
  | .aes64ks1i .. => "aes64ks1i"
  | .aes64ks2 .. => "aes64ks2"
  | .sha256sig0 .. => "sha256sig0"
  | .sha256sig1 .. => "sha256sig1"
  | .sha256sum0 .. => "sha256sum0"
  | .sha256sum1 .. => "sha256sum1"
  | .sha512sig0h .. => "sha512sig0h"
  | .sha512sig0l .. => "sha512sig0l"
  | .sha512sig1h .. => "sha512sig1h"
  | .sha512sig1l .. => "sha512sig1l"
  | .sha512sum0r .. => "sha512sum0r"
  | .sha512sum1r .. => "sha512sum1r"
  | .sha512sig0 .. => "sha512sig0"
  | .sha512sig1 .. => "sha512sig1"
  | .sha512sum0 .. => "sha512sum0"
  | .sha512sum1 .. => "sha512sum1"
  | .sm4ed .. => "sm4ed"
  | .sm4ks .. => "sm4ks"
  | .sm3p0 .. => "sm3p0"
  | .sm3p1 .. => "sm3p1"
  | .csrrw .. => "csrrw"
  | .csrrs .. => "csrrs"
  | .csrrc .. => "csrrc"
  | .csrrwi .. => "csrrwi"
  | .csrrsi .. => "csrrsi"
  | .csrrci .. => "csrrci"

/-- The destination register field, `inst[11:7]`. -/
def Instr.rd : Instr → Reg
  | .andn rd _ _ | .orn rd _ _ | .xnor rd _ _ | .rol rd _ _ | .rolw rd _ _ | .ror rd _ _
  | .roriRv32 rd _ _ | .roriRv64 rd _ _ | .roriw rd _ _ | .rorw rd _ _ | .pack rd _ _ | .packh rd _ _
  | .packw rd _ _ | .brev8 rd _ | .rev8Rv32 rd _ | .rev8Rv64 rd _ | .zip rd _ | .unzip rd _
  | .clmul rd _ _ | .clmulh rd _ _ | .xperm8 rd _ _ | .xperm4 rd _ _ | .aes32dsi rd _ _ _ | .aes32dsmi rd _ _ _
  | .aes32esi rd _ _ _ | .aes32esmi rd _ _ _ | .aes64ds rd _ _ | .aes64dsm rd _ _ | .aes64es rd _ _ | .aes64esm rd _ _
  | .aes64im rd _ | .aes64ks1i rd _ _ | .aes64ks2 rd _ _ | .sha256sig0 rd _ | .sha256sig1 rd _ | .sha256sum0 rd _
  | .sha256sum1 rd _ | .sha512sig0h rd _ _ | .sha512sig0l rd _ _ | .sha512sig1h rd _ _ | .sha512sig1l rd _ _ | .sha512sum0r rd _ _
  | .sha512sum1r rd _ _ | .sha512sig0 rd _ | .sha512sig1 rd _ | .sha512sum0 rd _ | .sha512sum1 rd _ | .sm4ed rd _ _ _
  | .sm4ks rd _ _ _ | .sm3p0 rd _ | .sm3p1 rd _ | .csrrw rd _ _ | .csrrs rd _ _ | .csrrc rd _ _
  | .csrrwi rd _ _ | .csrrsi rd _ _ | .csrrci rd _ _ => rd

/-- A CSR instruction (format CSR, R78), as opposed to one of the 49 computational instructions. -/
def Instr.isCsr : Instr → Bool
  | .csrrw .. | .csrrs .. | .csrrc .. | .csrrwi .. | .csrrsi .. | .csrrci .. => true
  | .andn .. | .orn .. | .xnor .. | .rol .. | .rolw .. | .ror ..
  | .roriRv32 .. | .roriRv64 .. | .roriw .. | .rorw .. | .pack .. | .packh ..
  | .packw .. | .brev8 .. | .rev8Rv32 .. | .rev8Rv64 .. | .zip .. | .unzip ..
  | .clmul .. | .clmulh .. | .xperm8 .. | .xperm4 .. | .aes32dsi .. | .aes32dsmi ..
  | .aes32esi .. | .aes32esmi .. | .aes64ds .. | .aes64dsm .. | .aes64es .. | .aes64esm ..
  | .aes64im .. | .aes64ks1i .. | .aes64ks2 .. | .sha256sig0 .. | .sha256sig1 .. | .sha256sum0 ..
  | .sha256sum1 .. | .sha512sig0h .. | .sha512sig0l .. | .sha512sig1h .. | .sha512sig1l .. | .sha512sum0r ..
  | .sha512sum1r .. | .sha512sig0 .. | .sha512sig1 .. | .sha512sum0 .. | .sha512sum1 .. | .sm4ed ..
  | .sm4ks .. | .sm3p0 .. | .sm3p1 .. => false

end Sys2Proof
end

