-- ==== Sys2Proof/Machine/Availability.lean ====
section
/-! DEFINITION. Which instructions and CSRs a configuration has: the width and extension columns of
spec/00_scope.md R4 and the CSR map of spec/10_state.md R27. -/

namespace Sys2Proof

/-- The base widths on which an instruction exists (R4; the XLEN columns of R80 to R84). -/
def Instr.onXlen : Instr → Xlen → Bool
  | .roriRv32 .., x | .rev8Rv32 .., x | .zip .., x | .unzip .., x | .aes32dsi .., x
  | .aes32dsmi .., x | .aes32esi .., x | .aes32esmi .., x | .sha512sig0h .., x | .sha512sig0l .., x
  | .sha512sig1h .., x | .sha512sig1l .., x | .sha512sum0r .., x | .sha512sum1r .., x => x == .rv32
  | .rolw .., x | .roriRv64 .., x | .roriw .., x | .rorw .., x | .packw .., x
  | .rev8Rv64 .., x | .aes64ds .., x | .aes64dsm .., x | .aes64es .., x | .aes64esm .., x
  | .aes64im .., x | .aes64ks1i .., x | .aes64ks2 .., x | .sha512sig0 .., x | .sha512sig1 .., x
  | .sha512sum0 .., x | .sha512sum1 .., x => x == .rv64
  | .andn .., _ | .orn .., _ | .xnor .., _ | .rol .., _ | .ror .., _
  | .pack .., _ | .packh .., _ | .brev8 .., _ | .clmul .., _ | .clmulh .., _
  | .xperm8 .., _ | .xperm4 .., _ | .sha256sig0 .., _ | .sha256sig1 .., _ | .sha256sum0 .., _
  | .sha256sum1 .., _ | .sm4ed .., _ | .sm4ks .., _ | .sm3p0 .., _ | .sm3p1 .., _
  | .csrrw .., _ | .csrrs .., _ | .csrrc .., _ | .csrrwi .., _ | .csrrsi .., _
  | .csrrci .., _ => true

/-- The extensions an instruction belongs to; it exists when any of them is implemented (R4). The six
CSR instructions are the base machine's; which CSR they reach is `Config.csrAt`. -/
def Instr.extensions : Instr → List ExtName
  | .andn .. | .orn .. | .xnor .. | .rol .. | .rolw .. | .ror ..
  | .roriRv32 .. | .roriRv64 .. | .roriw .. | .rorw .. | .pack .. | .packh ..
  | .packw .. | .brev8 .. | .rev8Rv32 .. | .rev8Rv64 .. | .zip .. | .unzip .. => [.zbkb]
  | .clmul .. | .clmulh .. => [.zbkc]
  | .xperm8 .. | .xperm4 .. => [.zbkx]
  | .aes32dsi .. | .aes32dsmi .. | .aes64ds .. | .aes64dsm .. | .aes64im .. => [.zknd]
  | .aes32esi .. | .aes32esmi .. | .aes64es .. | .aes64esm .. => [.zkne]
  | .aes64ks1i .. | .aes64ks2 .. => [.zknd, .zkne]
  | .sha256sig0 .. | .sha256sig1 .. | .sha256sum0 .. | .sha256sum1 .. | .sha512sig0h .. | .sha512sig0l ..
  | .sha512sig1h .. | .sha512sig1l .. | .sha512sum0r .. | .sha512sum1r .. | .sha512sig0 .. | .sha512sig1 ..
  | .sha512sum0 .. | .sha512sum1 .. => [.zknh]
  | .sm4ed .. | .sm4ks .. => [.zksed]
  | .sm3p0 .. | .sm3p1 .. => [.zksh]
  | .csrrw .. | .csrrs .. | .csrrc .. | .csrrwi .. | .csrrsi .. | .csrrci .. => []

/-- The extension of an instruction is in `EXT` (R85). -/
def Instr.inExt (e : Ext) (i : Instr) : Bool :=
  i.isCsr || i.extensions.any e.has

/-- The CSRs of this spec (R27), with the RV32 high half of `mseccfg` (R217). -/
inductive CsrName where
  | seed
  | mseccfg
  | mseccfgh
  | mnoise
deriving DecidableEq, Repr

/-- The address of `seed` (R27, R59). -/
def seedAddr : CsrAddr := 0x015

/-- The CSR a configuration has at an address: `seed` when Zkr is in `EXT` (R221), `mseccfg` when it
exists (R32 (d)), its high half on RV32 (R217), `mnoise` where `MNOISE` gives the address (R234). -/
def Config.csrAt (c : Config) (a : CsrAddr) : Option CsrName :=
  if a = seedAddr then (if c.ext.zkr then some .seed else none)
  else if a = c.mseccfgAddr then (if c.mseccfgExists then some .mseccfg else none)
  else if a = c.mseccfghAddr ∧ c.xlen = .rv32 then (if c.mseccfgExists then some .mseccfgh else none)
  else if c.mnoise = some a then some .mnoise
  else none

/-- The address field of a CSR instruction. -/
def Instr.csrAddr? : Instr → Option CsrAddr
  | .csrrw _ csr _ | .csrrs _ csr _ | .csrrc _ csr _
  | .csrrwi _ csr _ | .csrrsi _ csr _ | .csrrci _ csr _ => some csr
  | .andn .. | .orn .. | .xnor .. | .rol .. | .rolw .. | .ror ..
  | .roriRv32 .. | .roriRv64 .. | .roriw .. | .rorw .. | .pack .. | .packh ..
  | .packw .. | .brev8 .. | .rev8Rv32 .. | .rev8Rv64 .. | .zip .. | .unzip ..
  | .clmul .. | .clmulh .. | .xperm8 .. | .xperm4 .. | .aes32dsi .. | .aes32dsmi ..
  | .aes32esi .. | .aes32esmi .. | .aes64ds .. | .aes64dsm .. | .aes64es .. | .aes64esm ..
  | .aes64im .. | .aes64ks1i .. | .aes64ks2 .. | .sha256sig0 .. | .sha256sig1 .. | .sha256sum0 ..
  | .sha256sum1 .. | .sha512sig0h .. | .sha512sig0l .. | .sha512sig1h .. | .sha512sig1l .. | .sha512sum0r ..
  | .sha512sum1r .. | .sha512sig0 .. | .sha512sig1 .. | .sha512sum0 .. | .sha512sum1 .. | .sm4ed ..
  | .sm4ks .. | .sm3p0 .. | .sm3p1 .. => none

/-- The operands have no reserved value: `rnum` is at most 0xA (R86 (a)), and a CSR address is one the
configuration has (R251 I5, I7; PRESUMED for the unknown CSR: notes/assumptions/19.md). -/
def Instr.operandsOk (c : Config) (i : Instr) : Bool :=
  match i with
  | .aes64ks1i _ _ rnum => decide (rnum ≤ 0xA)
  | .csrrw _ csr _ | .csrrs _ csr _ | .csrrc _ csr _
  | .csrrwi _ csr _ | .csrrsi _ csr _ | .csrrci _ csr _ => (c.csrAt csr).isSome
  | .andn .. | .orn .. | .xnor .. | .rol .. | .rolw .. | .ror ..
  | .roriRv32 .. | .roriRv64 .. | .roriw .. | .rorw .. | .pack .. | .packh ..
  | .packw .. | .brev8 .. | .rev8Rv32 .. | .rev8Rv64 .. | .zip .. | .unzip ..
  | .clmul .. | .clmulh .. | .xperm8 .. | .xperm4 .. | .aes32dsi .. | .aes32dsmi ..
  | .aes32esi .. | .aes32esmi .. | .aes64ds .. | .aes64dsm .. | .aes64es .. | .aes64esm ..
  | .aes64im .. | .aes64ks2 .. | .sha256sig0 .. | .sha256sig1 .. | .sha256sum0 .. | .sha256sum1 ..
  | .sha512sig0h .. | .sha512sig0l .. | .sha512sig1h .. | .sha512sig1l .. | .sha512sum0r .. | .sha512sum1r ..
  | .sha512sig0 .. | .sha512sig1 .. | .sha512sum0 .. | .sha512sum1 .. | .sm4ed .. | .sm4ks ..
  | .sm3p0 .. | .sm3p1 .. => true

end Sys2Proof
end

