-- ==== Sys2Proof/WellFormed.lean ====
section
/-! DEFINITION. Well-formed instructions: those a word can stand for under a configuration
(spec/30_encoding.md R85, R86, R90). Widths of the fields are carried by their types. -/

namespace Sys2Proof

/-- An instruction is well formed under a configuration when it exists at its XLEN, one of its
extensions is in its `EXT`, and its operands hold no reserved value. -/
def Instr.wellFormed (c : Config) (i : Instr) : Bool :=
  i.onXlen c.xlen && i.inExt c.ext && i.operandsOk c

end Sys2Proof
end

