-- ==== Sys2Proof/Decode.lean ====
section
/-! DEFINITION. Decoding and encoding (spec/30_encoding.md). Decoding is the table walk of R85, total on
any bytes, and rejects by name; every rejection is the IllegalInstruction of R90 and R251 once a step
meets it (Machine/Step.lean). The encoder is written from the same rows. The three figures corrected by
R93 are used as corrected (DEDUCED: notes/assumptions/23.md). -/

namespace Sys2Proof

/-! ## Fields of a word (R72 to R78) -/

/-- `inst[11:7]`. -/
def fieldRd (w : Word32) : Reg := w.extractLsb' 7 5
/-- `inst[19:15]`, also the `uimm` of the immediate CSR forms. -/
def fieldRs1 (w : Word32) : Reg := w.extractLsb' 15 5
/-- `inst[24:20]`, also the 5-bit `shamt` (R75). -/
def fieldRs2 (w : Word32) : Reg := w.extractLsb' 20 5
/-- `inst[31:30]`, the byte select (R76). -/
def fieldBs (w : Word32) : BitVec 2 := w.extractLsb' 30 2
/-- `inst[25:20]`, the 6-bit `shamt` of `rori` on RV64 (R75). -/
def fieldShamt6 (w : Word32) : BitVec 6 := w.extractLsb' 20 6
/-- `inst[23:20]`, the round number (R77). -/
def fieldRnum (w : Word32) : BitVec 4 := w.extractLsb' 20 4
/-- `inst[31:20]`, the CSR address (R78). -/
def fieldCsr (w : Word32) : CsrAddr := w.extractLsb' 20 12

/-! ## The rows (R80 to R84) -/

/-- A decode row: a word selects it when `w & mask = pattern` (R85); `build` reads the operands. -/
structure DecodeRow where
  mask : Word32
  pattern : Word32
  build : Word32 → Instr

/-- A row of format R (R72): mask 0xFE00707F. -/
def rowR (pattern : Word32) (k : Reg → Reg → Reg → Instr) : DecodeRow :=
  ⟨0xFE00707F, pattern, fun w => k (fieldRd w) (fieldRs1 w) (fieldRs2 w)⟩

/-- A row of format R-bs (R73): mask 0x3E00707F. -/
def rowBs (pattern : Word32) (k : Reg → Reg → Reg → BitVec 2 → Instr) : DecodeRow :=
  ⟨0x3E00707F, pattern, fun w => k (fieldRd w) (fieldRs1 w) (fieldRs2 w) (fieldBs w)⟩

/-- A row of format I-unary (R74): mask 0xFFF0707F. -/
def rowI (pattern : Word32) (k : Reg → Reg → Instr) : DecodeRow :=
  ⟨0xFFF0707F, pattern, fun w => k (fieldRd w) (fieldRs1 w)⟩

/-- A row of format I-shamt5 (R75): mask 0xFE00707F. -/
def rowShamt5 (pattern : Word32) (k : Reg → Reg → BitVec 5 → Instr) : DecodeRow :=
  ⟨0xFE00707F, pattern, fun w => k (fieldRd w) (fieldRs1 w) (fieldRs2 w)⟩

/-- A row of format I-shamt6 (R75): mask 0xFC00707F. -/
def rowShamt6 (pattern : Word32) (k : Reg → Reg → BitVec 6 → Instr) : DecodeRow :=
  ⟨0xFC00707F, pattern, fun w => k (fieldRd w) (fieldRs1 w) (fieldShamt6 w)⟩

/-- A row of format I-rnum (R77): mask 0xFF00707F. -/
def rowRnum (pattern : Word32) (k : Reg → Reg → BitVec 4 → Instr) : DecodeRow :=
  ⟨0xFF00707F, pattern, fun w => k (fieldRd w) (fieldRs1 w) (fieldRnum w)⟩

/-- A row of format CSR (R78) at every address: `opcode` and `funct3` fixed, mask 0x0000707F. The table's
six rows are these with the address 0x015; R217, R234 and R272 (4) need the others. -/
def rowCsr (pattern : Word32) (k : Reg → CsrAddr → BitVec 5 → Instr) : DecodeRow :=
  ⟨0x0000707F, pattern, fun w => k (fieldRd w) (fieldCsr w) (fieldRs1 w)⟩

/-- Rows of opcode 0x33, OP (R80). -/
def rowsOpA : List DecodeRow :=
  [ rowBs 0x22000033 .aes32esi
  , rowBs 0x26000033 .aes32esmi
  , rowBs 0x2A000033 .aes32dsi
  , rowBs 0x2E000033 .aes32dsmi
  , rowBs 0x30000033 .sm4ed
  , rowR 0x32000033 .aes64es
  , rowBs 0x34000033 .sm4ks
  , rowR 0x36000033 .aes64esm
  , rowR 0x3A000033 .aes64ds
  , rowR 0x3E000033 .aes64dsm
  , rowR 0x50000033 .sha512sum0r
  , rowR 0x52000033 .sha512sum1r
  , rowR 0x54000033 .sha512sig0l
  , rowR 0x56000033 .sha512sig1l ]

/-- Rows of opcode 0x33, OP (R80). -/
def rowsOpB : List DecodeRow :=
  [ rowR 0x5C000033 .sha512sig0h
  , rowR 0x5E000033 .sha512sig1h
  , rowR 0x7E000033 .aes64ks2
  , rowR 0x0A001033 .clmul
  , rowR 0x60001033 .rol
  , rowR 0x28002033 .xperm4
  , rowR 0x0A003033 .clmulh
  , rowR 0x08004033 .pack
  , rowR 0x28004033 .xperm8
  , rowR 0x40004033 .xnor
  , rowR 0x60005033 .ror
  , rowR 0x40006033 .orn
  , rowR 0x08007033 .packh
  , rowR 0x40007033 .andn ]

/-- Rows of opcode 0x3B, OP-32 (R81). -/
def rowsOp32 : List DecodeRow :=
  [ rowR 0x6000103B .rolw
  , rowR 0x0800403B .packw
  , rowR 0x6000503B .rorw ]

/-- Rows of opcode 0x13, OP-IMM (R82). -/
def rowsOpImmA : List DecodeRow :=
  [ rowI 0x08F01013 .zip
  , rowI 0x10001013 .sha256sum0
  , rowI 0x10101013 .sha256sum1
  , rowI 0x10201013 .sha256sig0
  , rowI 0x10301013 .sha256sig1
  , rowI 0x10401013 .sha512sum0
  , rowI 0x10501013 .sha512sum1
  , rowI 0x10601013 .sha512sig0
  , rowI 0x10701013 .sha512sig1
  , rowI 0x10801013 .sm3p0
  , rowI 0x10901013 .sm3p1
  , rowI 0x30001013 .aes64im
  , rowRnum 0x31001013 .aes64ks1i
  , rowI 0x08F05013 .unzip ]

/-- Rows of opcode 0x13, OP-IMM (R82). -/
def rowsOpImmB : List DecodeRow :=
  [ rowShamt5 0x60005013 .roriRv32
  , rowShamt6 0x60005013 .roriRv64
  , rowI 0x68705013 .brev8
  , rowI 0x69805013 .rev8Rv32
  , rowI 0x6B805013 .rev8Rv64 ]

/-- Rows of opcode 0x1B, OP-IMM-32 (R83). -/
def rowsOpImm32 : List DecodeRow :=
  [ rowShamt5 0x6000501B .roriw ]

/-- Rows of opcode 0x73, SYSTEM (R84). -/
def rowsSystem : List DecodeRow :=
  [ rowCsr 0x00001073 .csrrw
  , rowCsr 0x00002073 .csrrs
  , rowCsr 0x00003073 .csrrc
  , rowCsr 0x00005073 .csrrwi
  , rowCsr 0x00006073 .csrrsi
  , rowCsr 0x00007073 .csrrci ]

/-- All decode rows. -/
def decodeRows : List DecodeRow :=
  rowsOpA ++ rowsOpB ++ rowsOp32 ++ rowsOpImmA ++ rowsOpImmB ++ rowsOpImm32 ++ rowsSystem

/-- A word selects a row's pattern (R85, first condition). -/
def DecodeRow.matchesWord (r : DecodeRow) (w : Word32) : Bool :=
  (w &&& r.mask) == r.pattern

/-! ## Decoding (R85) -/

/-- Why bytes are no instruction of this configuration. -/
inductive Reject where
  /-- Fewer than four bytes. -/
  | truncated
  /-- No row has the pattern (R90). -/
  | unassigned
  /-- The row is for the other XLEN (R90). -/
  | otherXlen
  /-- The row's extension is not in `EXT` (R90). -/
  | extensionAbsent
  /-- `aes64ks1i` with `rnum` above 0xA (R86 (a)). -/
  | reservedRnum
  /-- `rori` on RV32 with bit 25 set, Zbkb in `EXT` (R86 (b)). -/
  | reservedShamt
  /-- A CSR instruction at an address that has no CSR (R221; R251 I5, I7). -/
  | absentCsr
deriving DecidableEq, Repr

/-- What decoding answers. -/
inductive Decoded where
  | instr (i : Instr)
  | rejected (r : Reject)
deriving DecidableEq, Repr

/-- Why a word selects no row at this XLEN. The pattern of R86 (b) is reserved where `rori` exists: without
Zbkb it is a word of the other XLEN's row, as any other. -/
def rejectReason (c : Config) (w : Word32) : Reject :=
  if (w &&& 0xFE00707F) = 0x62005013 ∧ c.xlen = .rv32 ∧ c.ext.zbkb = true then .reservedShamt
  else if decodeRows.any (fun r => r.matchesWord w) then .otherXlen
  else .unassigned

/-- The checks after a row is selected: its extension (R85), then the reserved operands (R86, R221). -/
def checkDecoded (c : Config) (i : Instr) : Decoded :=
  if i.inExt c.ext then
    if i.operandsOk c then .instr i
    else .rejected (if i.isCsr then .absentCsr else .reservedRnum)
  else .rejected .extensionAbsent

/-- Decoding one 32-bit word (R85). -/
def decodeWord (c : Config) (w : Word32) : Decoded :=
  match decodeRows.find? (fun r => r.matchesWord w && (r.build w).onXlen c.xlen) with
  | some r => checkDecoded c (r.build w)
  | none => .rejected (rejectReason c w)

/-- Four bytes as a word, the first the least significant (PRESUMED, D8: notes/assumptions/18.md). -/
def wordOfBytes (b0 b1 b2 b3 : Byte) : Word32 :=
  b3 ++ b2 ++ b1 ++ b0

/-- The four bytes of a word in the order memory holds them (D8). -/
def bytesOfWord (w : Word32) : List Byte :=
  [w.extractLsb' 0 8, w.extractLsb' 8 8, w.extractLsb' 16 8, w.extractLsb' 24 8]

/-- The word in the first four bytes of a list, 0 for bytes that are not there. -/
def wordOfList (bytes : List Byte) : Word32 :=
  wordOfBytes (bytes.getD 0 0) (bytes.getD 1 0) (bytes.getD 2 0) (bytes.getD 3 0)

/-- Decoding bytes: the instruction at the front of the list. -/
def decode (c : Config) (bytes : List Byte) : Decoded :=
  match bytes with
  | b0 :: b1 :: b2 :: b3 :: _ => decodeWord c (wordOfList [b0, b1, b2, b3])
  | _ => .rejected .truncated

/-! ## Encoding -/

/-- Format R. -/
def encR (pattern : Word32) (rd rs1 rs2 : Reg) : Word32 :=
  pattern ||| (rd.setWidth 32 <<< 7) ||| (rs1.setWidth 32 <<< 15) ||| (rs2.setWidth 32 <<< 20)

/-- Format R-bs. -/
def encBs (pattern : Word32) (rd rs1 rs2 : Reg) (bs : BitVec 2) : Word32 :=
  encR pattern rd rs1 rs2 ||| (bs.setWidth 32 <<< 30)

/-- Format I-unary. -/
def encI (pattern : Word32) (rd rs1 : Reg) : Word32 :=
  pattern ||| (rd.setWidth 32 <<< 7) ||| (rs1.setWidth 32 <<< 15)

/-- Format I-shamt5. -/
def encShamt5 (pattern : Word32) (rd rs1 : Reg) (shamt : BitVec 5) : Word32 :=
  encI pattern rd rs1 ||| (shamt.setWidth 32 <<< 20)

/-- Format I-shamt6. -/
def encShamt6 (pattern : Word32) (rd rs1 : Reg) (shamt : BitVec 6) : Word32 :=
  encI pattern rd rs1 ||| (shamt.setWidth 32 <<< 20)

/-- Format I-rnum. -/
def encRnum (pattern : Word32) (rd rs1 : Reg) (rnum : BitVec 4) : Word32 :=
  encI pattern rd rs1 ||| (rnum.setWidth 32 <<< 20)

/-- Format CSR. -/
def encCsr (pattern : Word32) (rd : Reg) (csr : CsrAddr) (src : BitVec 5) : Word32 :=
  encI pattern rd src ||| (csr.setWidth 32 <<< 20)

/-- The word of an instruction (R80 to R84). -/
def encode : Instr → Word32
  | .andn rd rs1 rs2 => encR 0x40007033 rd rs1 rs2
  | .orn rd rs1 rs2 => encR 0x40006033 rd rs1 rs2
  | .xnor rd rs1 rs2 => encR 0x40004033 rd rs1 rs2
  | .rol rd rs1 rs2 => encR 0x60001033 rd rs1 rs2
  | .rolw rd rs1 rs2 => encR 0x6000103B rd rs1 rs2
  | .ror rd rs1 rs2 => encR 0x60005033 rd rs1 rs2
  | .roriRv32 rd rs1 shamt => encShamt5 0x60005013 rd rs1 shamt
  | .roriRv64 rd rs1 shamt => encShamt6 0x60005013 rd rs1 shamt
  | .roriw rd rs1 shamt => encShamt5 0x6000501B rd rs1 shamt
  | .rorw rd rs1 rs2 => encR 0x6000503B rd rs1 rs2
  | .pack rd rs1 rs2 => encR 0x08004033 rd rs1 rs2
  | .packh rd rs1 rs2 => encR 0x08007033 rd rs1 rs2
  | .packw rd rs1 rs2 => encR 0x0800403B rd rs1 rs2
  | .brev8 rd rs1 => encI 0x68705013 rd rs1
  | .rev8Rv32 rd rs1 => encI 0x69805013 rd rs1
  | .rev8Rv64 rd rs1 => encI 0x6B805013 rd rs1
  | .zip rd rs1 => encI 0x08F01013 rd rs1
  | .unzip rd rs1 => encI 0x08F05013 rd rs1
  | .clmul rd rs1 rs2 => encR 0x0A001033 rd rs1 rs2
  | .clmulh rd rs1 rs2 => encR 0x0A003033 rd rs1 rs2
  | .xperm8 rd rs1 rs2 => encR 0x28004033 rd rs1 rs2
  | .xperm4 rd rs1 rs2 => encR 0x28002033 rd rs1 rs2
  | .aes32dsi rd rs1 rs2 bs => encBs 0x2A000033 rd rs1 rs2 bs
  | .aes32dsmi rd rs1 rs2 bs => encBs 0x2E000033 rd rs1 rs2 bs
  | .aes32esi rd rs1 rs2 bs => encBs 0x22000033 rd rs1 rs2 bs
  | .aes32esmi rd rs1 rs2 bs => encBs 0x26000033 rd rs1 rs2 bs
  | .aes64ds rd rs1 rs2 => encR 0x3A000033 rd rs1 rs2
  | .aes64dsm rd rs1 rs2 => encR 0x3E000033 rd rs1 rs2
  | .aes64es rd rs1 rs2 => encR 0x32000033 rd rs1 rs2
  | .aes64esm rd rs1 rs2 => encR 0x36000033 rd rs1 rs2
  | .aes64im rd rs1 => encI 0x30001013 rd rs1
  | .aes64ks1i rd rs1 rnum => encRnum 0x31001013 rd rs1 rnum
  | .aes64ks2 rd rs1 rs2 => encR 0x7E000033 rd rs1 rs2
  | .sha256sig0 rd rs1 => encI 0x10201013 rd rs1
  | .sha256sig1 rd rs1 => encI 0x10301013 rd rs1
  | .sha256sum0 rd rs1 => encI 0x10001013 rd rs1
  | .sha256sum1 rd rs1 => encI 0x10101013 rd rs1
  | .sha512sig0h rd rs1 rs2 => encR 0x5C000033 rd rs1 rs2
  | .sha512sig0l rd rs1 rs2 => encR 0x54000033 rd rs1 rs2
  | .sha512sig1h rd rs1 rs2 => encR 0x5E000033 rd rs1 rs2
  | .sha512sig1l rd rs1 rs2 => encR 0x56000033 rd rs1 rs2
  | .sha512sum0r rd rs1 rs2 => encR 0x50000033 rd rs1 rs2
  | .sha512sum1r rd rs1 rs2 => encR 0x52000033 rd rs1 rs2
  | .sha512sig0 rd rs1 => encI 0x10601013 rd rs1
  | .sha512sig1 rd rs1 => encI 0x10701013 rd rs1
  | .sha512sum0 rd rs1 => encI 0x10401013 rd rs1
  | .sha512sum1 rd rs1 => encI 0x10501013 rd rs1
  | .sm4ed rd rs1 rs2 bs => encBs 0x30000033 rd rs1 rs2 bs
  | .sm4ks rd rs1 rs2 bs => encBs 0x34000033 rd rs1 rs2 bs
  | .sm3p0 rd rs1 => encI 0x10801013 rd rs1
  | .sm3p1 rd rs1 => encI 0x10901013 rd rs1
  | .csrrw rd csr rs1 => encCsr 0x00001073 rd csr rs1
  | .csrrs rd csr rs1 => encCsr 0x00002073 rd csr rs1
  | .csrrc rd csr rs1 => encCsr 0x00003073 rd csr rs1
  | .csrrwi rd csr uimm => encCsr 0x00005073 rd csr uimm
  | .csrrsi rd csr uimm => encCsr 0x00006073 rd csr uimm
  | .csrrci rd csr uimm => encCsr 0x00007073 rd csr uimm

/-! ## The host's view of the table -/

/-- The default configuration at a given width: every extension and every table CSR is present. -/
def tableConfig (x : Xlen) : Config :=
  Config.default.withXlen x

/-- The bytes of a table word: bits above `nbits` are 0, four bytes, little-endian. -/
def tableBytes (nbits w : Nat) : List Byte :=
  bytesOfWord (BitVec.ofNat 32 (w % 2 ^ nbits))

/-- The instruction the decoder reads from a table word, on RV64 or, where RV64 has none, on RV32. -/
def decodeTableWord (nbits w : Nat) : Option Instr :=
  match decode (tableConfig .rv64) (tableBytes nbits w) with
  | .instr i => some i
  | .rejected _ =>
    match decode (tableConfig .rv32) (tableBytes nbits w) with
    | .instr i => some i
    | .rejected _ => none

end Sys2Proof
end

