-- ==== Sys2Proof/Machine/State.lean ====
section
/-! DEFINITION. The state of the machine (spec/10_state.md R20 to R38), the outcomes that are no next
state, and reset (spec/70_reset_and_hazards.md R281 to R285). Flags do not exist (R25), nor does any
other register file (R34); the state of the trap mechanism is not to be invented (spec/60_exceptions.md
R260). -/

namespace Sys2Proof.Machine

/-- The privilege mode (R26). `S` is S or HS when `virt` is false and VS when it is true, `U` is U or
VU. -/
inductive Priv where
  | m
  | s
  | u
deriving DecidableEq, Repr

/-- The state of the entropy source that a model keeps (R36). -/
structure EntropySource where
  /-- A poll has returned DEAD since reset (R213). -/
  dead : Bool
  /-- `mnoise[31]`, NOISE_TEST (R33, R234). -/
  noiseTest : Bool
deriving DecidableEq, Repr

/-- Instruction memory (R35 (b)): the bytes it holds, addresses strictly rising. An address that is not
listed holds no byte (DESIGN CHOICE, safe: notes/assumptions/17.md). -/
abbrev Memory := List Host.Cell

/-- The state of the machine. -/
structure State where
  /-- The parameters of the implementation (R11), changed by no step. -/
  cfg : Config
  /-- The general registers (R21); entry 0 is neither read nor written. -/
  x : Vector XWord 32
  /-- The program counter (R24). -/
  pc : XWord
  /-- The privilege mode (R26). -/
  priv : Priv
  /-- The virtualisation flag (R26). -/
  virt : Bool
  /-- `mseccfg[9]` (R31). -/
  sseed : Bool
  /-- `mseccfg[8]` (R31). -/
  useed : Bool
  /-- The entropy source (R36). -/
  es : EntropySource
  /-- Instruction memory (R35). -/
  mem : Memory
  /-- The model's own: how many draws permitted accesses to `seed` have made (notes/assumptions/8.md). -/
  draws : Nat
deriving DecidableEq, Repr

/-- The exceptions of the spec (R250). -/
inductive Exception where
  | illegalInstruction
  | virtualInstruction
deriving DecidableEq, Repr

/-- What the trap mechanism is handed (spec/60_exceptions.md R260): the cause, the address of the
faulting instruction and its word. -/
structure Trap where
  cause : Exception
  pc : XWord
  inst : Word32
deriving DecidableEq, Repr

/-- Why the machine stops. -/
inductive Fault where
  /-- An instruction raised an exception; raised by `Machine.raise`. The spec gives the exception and no
  trap entry, and tells a model of it alone to stop here with the state unchanged (R256, R260). Safe:
  nothing is claimed about what follows (notes/assumptions/13.md). -/
  | trap (t : Trap)
  /-- The fetch found `pc` not aligned; raised by `Machine.fetch`. The spec leaves it to the base
  machine (R52, R259). Safe (notes/assumptions/18.md). -/
  | fetchMisaligned (pc : XWord)
  /-- The fetch found no byte at an address; raised by `Machine.fetch`. Safe
  (notes/assumptions/17.md). -/
  | fetchAbsent (address : Nat)
deriving DecidableEq, Repr

/-- Why the model has no meaning for an instruction. -/
inductive Refusal where
  /-- An instruction without a meaning; raised by an arm of `exec` only, and by none of them now. Safe:
  nothing is claimed about the instruction. -/
  | notModelled (mnemonic : String)
deriving DecidableEq, Repr

/-- Reset of the implementation `c` (R285): M mode at `RESET_PC`, `sseed` and `useed` at their reset
parameters or 0 if hardwired (R282), the entropy source neither dead nor in test (R283). The register
contents `x` are arbitrary (R284); memory and the count of draws are whatever they were
(notes/assumptions/30.md). M mode is PRESUMED (notes/assumptions/5.md). -/
def State.resetOf (c : Config) (x : Vector XWord 32) (mem : Memory) (draws : Nat) : State where
  cfg := c
  x := x
  pc := c.resetPc
  priv := .m
  virt := false
  sseed := c.sseedReset && c.sseedIsWritable
  useed := c.useedReset && c.useedIsWritable
  es := ⟨false, false⟩
  mem := mem
  draws := draws

/-- The machine right after reset: the default configuration, every register 0 (DESIGN CHOICE, unsafe:
notes/assumptions/3.md), no memory listed, nothing drawn. -/
def State.reset : State :=
  State.resetOf .default (Vector.replicate 32 0) [] 0

end Sys2Proof.Machine
end

