-- ==== Sys2Proof/Machine/Ops.lean ====
section
/-! DEFINITION. The named operations every meaning is written over: XLEN-bit values, registers, the
program counter, memory, and raising an exception. -/

namespace Sys2Proof.Machine

/-! ## XLEN-bit values in their 64-bit home -/

/-- The XLEN-bit value in a 64-bit home: on RV32 its upper half is 0 (notes/assumptions/2.md). -/
def truncX (x : Xlen) (v : XWord) : XWord :=
  match x with
  | .rv32 => (v.setWidth 32).setWidth 64
  | .rv64 => v

/-- `sext_XLEN` of a 32-bit value (spec/00_scope.md R13). -/
def sextX (x : Xlen) (v : Word32) : XWord :=
  match x with
  | .rv32 => v.setWidth 64
  | .rv64 => v.signExtend 64

/-- `zext_XLEN` of a 32-bit value (R13). -/
def zextX (v : Word32) : XWord :=
  v.setWidth 64

/-! ## General registers (spec/10_state.md R21) -/

/-- `x[r]`: 0 for register 0, the XLEN-bit content otherwise. -/
def State.readX (s : State) (r : Reg) : XWord :=
  if r = 0 then 0 else truncX s.cfg.xlen (s.x[r.toNat]'r.isLt)

/-- The register file after `x[r] <- v` on a hart of a width. -/
def setReg (x : Xlen) (regs : Vector XWord 32) (r : Reg) (v : XWord) : Vector XWord 32 :=
  if r = 0 then regs else regs.set r.toNat (truncX x v) r.isLt

/-- `x[r] <- v`: discarded for register 0. -/
def State.writeX (s : State) (r : Reg) (v : XWord) : State :=
  { s with x := setReg s.cfg.xlen s.x r v }

/-- The low 32 bits of `x[r]`: all of it on RV32. -/
def State.readW (s : State) (r : Reg) : Word32 :=
  (s.readX r).setWidth 32

/-! ## The program counter (R24) -/

/-- `(pc + 4) mod 2^XLEN` (DESIGN CHOICE at the top of the address space, D4:
notes/assumptions/28.md). -/
def State.nextPc (s : State) : XWord :=
  truncX s.cfg.xlen (s.pc + 4)

/-- An instruction completes: `x[rd] <- v` and `pc <- pc + 4`, nothing else (R23, R24). -/
def State.retire (s : State) (rd : Reg) (v : XWord) : State :=
  { s.writeX rd v with pc := s.nextPc }

/-! ## Raising an exception (spec/60_exceptions.md R256, R260) -/

/-- `raise` of R13: the step's outcome is `Trap(cause, pc, inst)`, no register, CSR or entropy-source
state changed. There is no trap entry to take: R260 forbids inventing one
(notes/assumptions/13.md). -/
def raise (cause : Exception) (inst : Word32) (s : State) : Host.Outcome State Fault Refusal :=
  .fault (.trap ⟨cause, s.pc, inst⟩)

/-- Raising from the meaning of `i`: the recorded word is the encoding of `i`
(notes/assumptions/27.md). -/
def raiseFrom (cause : Exception) (i : Instr) (s : State) : Host.Outcome State Fault Refusal :=
  raise cause (encode i) s

/-- The cause code of an exception (R255; PRESUMED values in the default configuration, D7:
notes/assumptions/14.md). -/
def Trap.code (c : Config) (t : Trap) : Nat :=
  match t.cause with
  | .illegalInstruction => c.causeIllegal
  | .virtualInstruction => c.causeVirtual

/-- The value recorded with a trap: the instruction word zero-extended, or 0 (R255; D7). -/
def Trap.tval (c : Config) (t : Trap) : XWord :=
  if c.tvalIsInst then zextX t.inst else 0

/-- An instruction that does not exist in this configuration, or holds a reserved operand, raises
IllegalInstruction before any register is read or the entropy source is touched (R251 I1, I5, I6, I7;
R253). Otherwise its meaning runs. -/
def ifWellFormed (i : Instr) (s : State) (k : Host.Outcome State Fault Refusal) :
    Host.Outcome State Fault Refusal :=
  if i.wellFormed s.cfg then k else raiseFrom .illegalInstruction i s

/-- The shape of the 49 computational instructions: if it exists, `x[i.rd] <- v` and `pc <- pc + 4`
(R23, R272 (5)). The value is computed from `s`, before the write. -/
def compute (i : Instr) (v : XWord) (s : State) : Host.Outcome State Fault Refusal :=
  ifWellFormed i s (.next (s.retire i.rd v))

/-! ## Memory (spec/00_scope.md R13; spec/20_memory.md R52) -/

/-- The byte at an address, if there is one. -/
def Memory.read : Memory → Nat → Option Byte
  | [], _ => none
  | (a, b) :: m, k => if k = a then some b else Memory.read m k

/-- Write one byte, keeping the addresses strictly rising. -/
def Memory.write : Memory → Nat → Byte → Memory
  | [], k, v => [(k, v)]
  | (a, b) :: m, k, v =>
    if k < a then (k, v) :: (a, b) :: m
    else if k = a then (k, v) :: m
    else (a, b) :: Memory.write m k v

/-- The canonical form: addresses strictly rising. No listed entry equals what an unlisted address reads
as, since that is no byte at all. -/
def Memory.wf : Memory → Bool
  | [] => true
  | [_] => true
  | (a, _) :: (b, v) :: m => decide (a < b) && Memory.wf ((b, v) :: m)

/-- The address `k` bytes after `a` in the XLEN-bit address space. -/
def addrAt (x : Xlen) (a : XWord) (k : Nat) : Nat :=
  (truncX x (a + BitVec.ofNat 64 k)).toNat

/-- `MemRead(a, n)` (R13): `n` bytes, the lowest address first, or the first address without a byte. -/
def State.readBytes (s : State) (a : XWord) : Nat → Except Nat (List Byte)
  | 0 => .ok []
  | n + 1 =>
    match s.readBytes a n with
    | .error e => .error e
    | .ok bs =>
      match s.mem.read (addrAt s.cfg.xlen a n) with
      | none => .error (addrAt s.cfg.xlen a n)
      | some b => .ok (bs ++ [b])

/-- `MemWrite(a, n, v)` (R13): bytes in order from `a` on. No instruction uses it (R50); it places
programs. -/
def State.writeBytes (s : State) (a : XWord) (k : Nat) : List Byte → State
  | [] => s
  | b :: bs =>
    State.writeBytes { s with mem := s.mem.write (addrAt s.cfg.xlen a k) b } a (k + 1) bs

/-- Fetch of the word at `pc` (R52; PRESUMED little-endian, D8, D9: notes/assumptions/18.md). -/
def fetch (s : State) : Except Fault Word32 :=
  if s.pc.toNat % s.cfg.pcAlign = 0 then
    match s.readBytes s.pc 4 with
    | .ok bs => .ok (wordOfList bs)
    | .error a => .error (.fetchAbsent a)
  else .error (.fetchMisaligned s.pc)

end Sys2Proof.Machine
end

