-- ==== Sys2Proof/Machine/Operands.lean ====
section
/-! DEFINITION. The operand forms of spec/30_encoding.md R72 to R79: registers read at the machine's
XLEN, shift amounts, the byte select, and the bytes of a value. All are read from the state before the
destination is written (spec/10_state.md R23). -/

namespace Sys2Proof.Machine

/-- An operation of two registers at the machine's XLEN: `f32` on RV32, `f64` on RV64. -/
def State.opX2 (s : State) (f32 : Word32 → Word32 → Word32) (f64 : XWord → XWord → XWord)
    (rs1 rs2 : Reg) : XWord :=
  match s.cfg.xlen with
  | .rv32 => zextX (f32 (s.readW rs1) (s.readW rs2))
  | .rv64 => f64 (s.readX rs1) (s.readX rs2)

/-- An operation of one register at the machine's XLEN. -/
def State.opX1 (s : State) (f32 : Word32 → Word32) (f64 : XWord → XWord) (rs1 : Reg) : XWord :=
  match s.cfg.xlen with
  | .rv32 => zextX (f32 (s.readW rs1))
  | .rv64 => f64 (s.readX rs1)

/-- A 32-bit operation of two registers' low words, sign-extended to XLEN. -/
def State.opW2 (s : State) (f : Word32 → Word32 → Word32) (rs1 rs2 : Reg) : XWord :=
  sextX s.cfg.xlen (f (s.readW rs1) (s.readW rs2))

/-- A 32-bit operation of one register's low word, sign-extended to XLEN. -/
def State.opW1 (s : State) (f : Word32 → Word32) (rs1 : Reg) : XWord :=
  sextX s.cfg.xlen (f (s.readW rs1))

/-- The rotate amount of a 32-bit rotate: the low 5 bits (R104 to R109). -/
def amount5 {w : Nat} (v : BitVec w) : Nat :=
  (v.extractLsb' 0 5).toNat

/-- The rotate amount of a 64-bit rotate: the low 6 bits (R104, R106). -/
def amount6 {w : Nat} (v : BitVec w) : Nat :=
  (v.extractLsb' 0 6).toNat

/-- `shamt = bs || 0b000`, that is 8 * bs (R76). -/
def bsShamt (bs : BitVec 2) : Nat :=
  8 * bs.toNat

/-- Byte `k` of a value: bits 8k+7 down to 8k (R12, R53; `getbyte` of R146). -/
def getByte {w : Nat} (v : BitVec w) (k : Nat) : Byte :=
  v.extractLsb' (8 * k) 8

/-- Nibble `k` of a value: bits 4k+3 down to 4k (R12). -/
def getNibble {w : Nat} (v : BitVec w) (k : Nat) : BitVec 4 :=
  v.extractLsb' (4 * k) 4

/-- Byte `bs` of the low word (R76). -/
def selectByte (v : Word32) (bs : BitVec 2) : Byte :=
  getByte v bs.toNat

/-- The low word of a 64-bit value. -/
def loWord (v : XWord) : Word32 :=
  v.extractLsb' 0 32

/-- The high word of a 64-bit value. -/
def hiWord (v : XWord) : Word32 :=
  v.extractLsb' 32 32

/-- Entry `x` of a 256-entry table written as 16 rows of 16 bytes, row = high nibble, column = low
nibble, column 0 printed first (spec/42_aes.md R141). -/
def tableByte (rows : List (BitVec 128)) (x : Byte) : Byte :=
  ((rows.getD (x.toNat / 16) 0) >>> (8 * (15 - x.toNat % 16))).setWidth 8

end Sys2Proof.Machine
end

