-- ==== Sys2Proof/Machine/Aes.lean ====
section
/-! DEFINITION. Zknd and Zkne, the AES instructions (spec/42_aes.md R140 to R160). The round constant of
`rnum = 0xA` is 0 (DEDUCED, spec/90_conflicts.md C3: notes/assumptions/24.md). -/

namespace Sys2Proof.Machine

/-! ## S-boxes -/

/-- The forward S-box as R141 prints it: one row of 16 bytes for each high nibble. -/
def aesSboxFwdRows : List (BitVec 128) :=
  [ 0x637C777BF26B6FC53001672BFED7AB76
  , 0xCA82C97DFA5947F0ADD4A2AF9CA472C0
  , 0xB7FD9326363FF7CC34A5E5F171D83115
  , 0x04C723C31896059A071280E2EB27B275
  , 0x09832C1A1B6E5AA0523BD6B329E32F84
  , 0x53D100ED20FCB15B6ACBBE394A4C58CF
  , 0xD0EFAAFB434D338545F9027F503C9FA8
  , 0x51A3408F929D38F5BCB6DA2110FFF3D2
  , 0xCD0C13EC5F974417C4A77E3D645D1973
  , 0x60814FDC222A908846EEB814DE5E0BDB
  , 0xE0323A0A4906245CC2D3AC629195E479
  , 0xE7C8376D8DD54EA96C56F4EA657AAE08
  , 0xBA78252E1CA6B4C6E8DD741F4BBD8B8A
  , 0x703EB5664803F60E613557B986C11D9E
  , 0xE1F8981169D98E949B1E87E9CE5528DF
  , 0x8CA1890DBFE6426841992D0FB054BB16 ]

/-- The inverse S-box as R142 prints it. -/
def aesSboxInvRows : List (BitVec 128) :=
  [ 0x52096AD53036A538BF40A39E81F3D7FB
  , 0x7CE339829B2FFF87348E4344C4DEE9CB
  , 0x547B9432A6C2233DEE4C950B42FAC34E
  , 0x082EA16628D924B2765BA2496D8BD125
  , 0x72F8F66486689816D4A45CCC5D65B692
  , 0x6C704850FDEDB9DA5E154657A78D9D84
  , 0x90D8AB008CBCD30AF7E45805B8B34506
  , 0xD02C1E8FCA3F0F02C1AFBD0301138A6B
  , 0x3A9111414F67DCEA97F2CFCEF0B4E673
  , 0x96AC7422E7AD3585E2F937E81C75DF6E
  , 0x47F11A711D29C5896FB7620EAA18BE1B
  , 0xFC563E4BC6D279209ADBC0FE78CD5AF4
  , 0x1FDDA8338807C731B11210592780EC5F
  , 0x60517FA919B54A0D2DE57A9F93C99CEF
  , 0xA0E03B4DAE2AF5B0C8EBBB3C83539961
  , 0x172B047EBA77D626E169146355210C7D ]

/-- `aes_sbox_fwd` (R141). -/
def aesSboxFwd (x : Byte) : Byte := tableByte aesSboxFwdRows x

/-- `aes_sbox_inv` (R142). -/
def aesSboxInv (x : Byte) : Byte := tableByte aesSboxInvRows x

/-! ## Field arithmetic, MixColumns, ShiftRows, round constants -/

/-- `xt2` (R143). -/
def xt2 (x : Byte) : Byte := (x <<< 1) ^^^ (if x.getLsbD 7 then 0x1B else 0x00)

/-- `xt3` (R143). -/
def xt3 (x : Byte) : Byte := x ^^^ xt2 x

/-- `gfmul` by a 4-bit constant (R143). -/
def gfmul (x : Byte) (y : BitVec 4) : Byte :=
  (if y.getLsbD 0 then x else 0) ^^^
  (if y.getLsbD 1 then xt2 x else 0) ^^^
  (if y.getLsbD 2 then xt2 (xt2 x) else 0) ^^^
  (if y.getLsbD 3 then xt2 (xt2 (xt2 x)) else 0)

/-- `aes_mixcolumn_byte_fwd` (R144). -/
def aesMixcolumnByteFwd (so : Byte) : Word32 :=
  gfmul so 0x3 ++ so ++ so ++ gfmul so 0x2

/-- `aes_mixcolumn_byte_inv` (R144). -/
def aesMixcolumnByteInv (so : Byte) : Word32 :=
  gfmul so 0xB ++ gfmul so 0xD ++ gfmul so 0x9 ++ gfmul so 0xE

/-- `aes_mixcolumn_fwd` (R145). -/
def aesMixcolumnFwd (x : Word32) : Word32 :=
  let s0 := getByte x 0
  let s1 := getByte x 1
  let s2 := getByte x 2
  let s3 := getByte x 3
  let b0 := xt2 s0 ^^^ xt3 s1 ^^^ s2 ^^^ s3
  let b1 := s0 ^^^ xt2 s1 ^^^ xt3 s2 ^^^ s3
  let b2 := s0 ^^^ s1 ^^^ xt2 s2 ^^^ xt3 s3
  let b3 := xt3 s0 ^^^ s1 ^^^ s2 ^^^ xt2 s3
  b3 ++ b2 ++ b1 ++ b0

/-- `aes_mixcolumn_inv` (R145). -/
def aesMixcolumnInv (x : Word32) : Word32 :=
  let s0 := getByte x 0
  let s1 := getByte x 1
  let s2 := getByte x 2
  let s3 := getByte x 3
  let b0 := gfmul s0 0xE ^^^ gfmul s1 0xB ^^^ gfmul s2 0xD ^^^ gfmul s3 0x9
  let b1 := gfmul s0 0x9 ^^^ gfmul s1 0xE ^^^ gfmul s2 0xB ^^^ gfmul s3 0xD
  let b2 := gfmul s0 0xD ^^^ gfmul s1 0x9 ^^^ gfmul s2 0xE ^^^ gfmul s3 0xB
  let b3 := gfmul s0 0xB ^^^ gfmul s1 0xD ^^^ gfmul s2 0x9 ^^^ gfmul s3 0xE
  b3 ++ b2 ++ b1 ++ b0

/-- `aes_subword_fwd`: the forward S-box on each byte of a word (R146). -/
def aesSubwordFwd (x : Word32) : Word32 :=
  aesSboxFwd (getByte x 3) ++ aesSboxFwd (getByte x 2) ++ aesSboxFwd (getByte x 1) ++
    aesSboxFwd (getByte x 0)

/-- `aes_subword_inv`, used by no instruction (R146, R148). -/
def aesSubwordInv (x : Word32) : Word32 :=
  aesSboxInv (getByte x 3) ++ aesSboxInv (getByte x 2) ++ aesSboxInv (getByte x 1) ++
    aesSboxInv (getByte x 0)

/-- `aes_apply_fwd_sbox_to_each_byte` (R146). -/
def aesSubBytesFwd64 (x : XWord) : XWord :=
  aesSubwordFwd (hiWord x) ++ aesSubwordFwd (loWord x)

/-- `aes_apply_inv_sbox_to_each_byte` (R146). -/
def aesSubBytesInv64 (x : XWord) : XWord :=
  aesSubwordInv (hiWord x) ++ aesSubwordInv (loWord x)

/-- `aes_rv64_shiftrows_fwd`, arguments in the order `(rs2, rs1)` (R146). -/
def aesRv64ShiftrowsFwd (rs2 rs1 : XWord) : XWord :=
  getByte rs1 3 ++ getByte rs2 6 ++ getByte rs2 1 ++ getByte rs1 4 ++
  getByte rs2 7 ++ getByte rs2 2 ++ getByte rs1 5 ++ getByte rs1 0

/-- `aes_rv64_shiftrows_inv`, arguments in the order `(rs2, rs1)` (R146). -/
def aesRv64ShiftrowsInv (rs2 rs1 : XWord) : XWord :=
  getByte rs2 3 ++ getByte rs2 6 ++ getByte rs1 1 ++ getByte rs1 4 ++
  getByte rs1 7 ++ getByte rs2 2 ++ getByte rs2 5 ++ getByte rs1 0

/-- MixColumns on the two columns of a register (R155, R157, R158). -/
def aesMixcolumnFwd64 (x : XWord) : XWord :=
  aesMixcolumnFwd (hiWord x) ++ aesMixcolumnFwd (loWord x)

/-- Inverse MixColumns on the two columns of a register (R155, R158). -/
def aesMixcolumnInv64 (x : XWord) : XWord :=
  aesMixcolumnInv (hiWord x) ++ aesMixcolumnInv (loWord x)

/-- `aes_decode_rcon` (R147). A value above 0xA reaches it from no instruction. -/
def aesDecodeRcon (r : BitVec 4) : Word32 :=
  match r.toNat with
  | 0 => 0x00000001
  | 1 => 0x00000002
  | 2 => 0x00000004
  | 3 => 0x00000008
  | 4 => 0x00000010
  | 5 => 0x00000020
  | 6 => 0x00000040
  | 7 => 0x00000080
  | 8 => 0x0000001B
  | 9 => 0x00000036
  | _ => 0x00000000

/-- `aes_get_column` on a 128-bit state, used by no instruction (R148; the other 128-bit helpers are
left out: notes/assumptions/35.md). -/
def aesGetColumn (state : BitVec 128) (c : Nat) : Word32 :=
  state.extractLsb' (32 * c) 32

/-! ## Values of the instructions -/

/-- The common shape of the four RV32 round steps: `a ^ rol_32(F(byte bs of b), 8 * bs)` (R149). -/
def aes32Step (f : Byte → Word32) (bs : BitVec 2) (a b : Word32) : Word32 :=
  a ^^^ (f (selectByte b bs)).rotateLeft (bsShamt bs)

/-- `F` of `aes32dsi` (R150). -/
def aes32dsiF (si : Byte) : Word32 := (aesSboxInv si).setWidth 32

/-- `F` of `aes32dsmi` (R151). -/
def aes32dsmiF (si : Byte) : Word32 := aesMixcolumnByteInv (aesSboxInv si)

/-- `F` of `aes32esi` (R152). -/
def aes32esiF (si : Byte) : Word32 := (aesSboxFwd si).setWidth 32

/-- `F` of `aes32esmi` (R153). -/
def aes32esmiF (si : Byte) : Word32 := aesMixcolumnByteFwd (aesSboxFwd si)

/-- `aes64ds` (R154). -/
def aes64dsV (a b : XWord) : XWord := aesSubBytesInv64 (aesRv64ShiftrowsInv b a)

/-- `aes64dsm` (R155). -/
def aes64dsmV (a b : XWord) : XWord := aesMixcolumnInv64 (aesSubBytesInv64 (aesRv64ShiftrowsInv b a))

/-- `aes64es` (R156). -/
def aes64esV (a b : XWord) : XWord := aesSubBytesFwd64 (aesRv64ShiftrowsFwd b a)

/-- `aes64esm` (R157). -/
def aes64esmV (a b : XWord) : XWord := aesMixcolumnFwd64 (aesSubBytesFwd64 (aesRv64ShiftrowsFwd b a))

/-- `aes64ks1i` for a legal `rnum` (R159). -/
def aes64ks1iV (a : XWord) (rnum : BitVec 4) : XWord :=
  let t1 := hiWord a
  let t2 := if rnum = 0xA then t1 else t1.rotateRight 8
  let t3 := aesSubwordFwd t2 ^^^ aesDecodeRcon rnum
  t3 ++ t3

/-- `aes64ks2` (R160). -/
def aes64ks2V (a b : XWord) : XWord :=
  let w0 := hiWord a ^^^ loWord b
  let w1 := w0 ^^^ hiWord b
  w1 ++ w0

/-! ## Meanings -/

/-- `aes32dsi` (R150). -/
def execAes32dsi (rd rs1 rs2 : Reg) (bs : BitVec 2) (s : State) : Host.Outcome State Fault Refusal :=
  compute (.aes32dsi rd rs1 rs2 bs) (s.opW2 (aes32Step aes32dsiF bs) rs1 rs2) s

/-- `aes32dsmi` (R151). -/
def execAes32dsmi (rd rs1 rs2 : Reg) (bs : BitVec 2) (s : State) : Host.Outcome State Fault Refusal :=
  compute (.aes32dsmi rd rs1 rs2 bs) (s.opW2 (aes32Step aes32dsmiF bs) rs1 rs2) s

/-- `aes32esi` (R152). -/
def execAes32esi (rd rs1 rs2 : Reg) (bs : BitVec 2) (s : State) : Host.Outcome State Fault Refusal :=
  compute (.aes32esi rd rs1 rs2 bs) (s.opW2 (aes32Step aes32esiF bs) rs1 rs2) s

/-- `aes32esmi` (R153). -/
def execAes32esmi (rd rs1 rs2 : Reg) (bs : BitVec 2) (s : State) : Host.Outcome State Fault Refusal :=
  compute (.aes32esmi rd rs1 rs2 bs) (s.opW2 (aes32Step aes32esmiF bs) rs1 rs2) s

/-- `aes64ds` (R154). -/
def execAes64ds (rd rs1 rs2 : Reg) (s : State) : Host.Outcome State Fault Refusal :=
  compute (.aes64ds rd rs1 rs2) (aes64dsV (s.readX rs1) (s.readX rs2)) s

/-- `aes64dsm` (R155). -/
def execAes64dsm (rd rs1 rs2 : Reg) (s : State) : Host.Outcome State Fault Refusal :=
  compute (.aes64dsm rd rs1 rs2) (aes64dsmV (s.readX rs1) (s.readX rs2)) s

/-- `aes64es` (R156). -/
def execAes64es (rd rs1 rs2 : Reg) (s : State) : Host.Outcome State Fault Refusal :=
  compute (.aes64es rd rs1 rs2) (aes64esV (s.readX rs1) (s.readX rs2)) s

/-- `aes64esm` (R157). -/
def execAes64esm (rd rs1 rs2 : Reg) (s : State) : Host.Outcome State Fault Refusal :=
  compute (.aes64esm rd rs1 rs2) (aes64esmV (s.readX rs1) (s.readX rs2)) s

/-- `aes64im` (R158). -/
def execAes64im (rd rs1 : Reg) (s : State) : Host.Outcome State Fault Refusal :=
  compute (.aes64im rd rs1) (aesMixcolumnInv64 (s.readX rs1)) s

/-- `aes64ks1i` (R159): a reserved `rnum` raises IllegalInstruction, in `compute`. -/
def execAes64ks1i (rd rs1 : Reg) (rnum : BitVec 4) (s : State) : Host.Outcome State Fault Refusal :=
  compute (.aes64ks1i rd rs1 rnum) (aes64ks1iV (s.readX rs1) rnum) s

/-- `aes64ks2` (R160). -/
def execAes64ks2 (rd rs1 rs2 : Reg) (s : State) : Host.Outcome State Fault Refusal :=
  compute (.aes64ks2 rd rs1 rs2) (aes64ks2V (s.readX rs1) (s.readX rs2)) s

end Sys2Proof.Machine
end

