-- ==== Sys2Proof/Machine/Sha2.lean ====
section
/-! DEFINITION. Zknh, the SHA-2 instructions (spec/43_sha2.md R170 to R184). -/

namespace Sys2Proof.Machine

/-! ## Values -/

/-- SHA-256 sig0 (R171). -/
def sha256sig0V (w : Word32) : Word32 := w.rotateRight 7 ^^^ w.rotateRight 18 ^^^ (w >>> 3)

/-- SHA-256 sig1 (R172). -/
def sha256sig1V (w : Word32) : Word32 := w.rotateRight 17 ^^^ w.rotateRight 19 ^^^ (w >>> 10)

/-- SHA-256 sum0 (R173). -/
def sha256sum0V (w : Word32) : Word32 := w.rotateRight 2 ^^^ w.rotateRight 13 ^^^ w.rotateRight 22

/-- SHA-256 sum1 (R174). -/
def sha256sum1V (w : Word32) : Word32 := w.rotateRight 6 ^^^ w.rotateRight 11 ^^^ w.rotateRight 25

/-- SHA-512 sig0h on RV32 (R175). -/
def sha512sig0hV (a b : Word32) : Word32 :=
  (a >>> 1) ^^^ (a >>> 7) ^^^ (a >>> 8) ^^^ (b <<< 31) ^^^ (b <<< 24)

/-- SHA-512 sig0l on RV32 (R176). -/
def sha512sig0lV (a b : Word32) : Word32 :=
  (a >>> 1) ^^^ (a >>> 7) ^^^ (a >>> 8) ^^^ (b <<< 31) ^^^ (b <<< 25) ^^^ (b <<< 24)

/-- SHA-512 sig1h on RV32 (R177). -/
def sha512sig1hV (a b : Word32) : Word32 :=
  (a <<< 3) ^^^ (a >>> 6) ^^^ (a >>> 19) ^^^ (b >>> 29) ^^^ (b <<< 13)

/-- SHA-512 sig1l on RV32 (R178). -/
def sha512sig1lV (a b : Word32) : Word32 :=
  (a <<< 3) ^^^ (a >>> 6) ^^^ (a >>> 19) ^^^ (b >>> 29) ^^^ (b <<< 26) ^^^ (b <<< 13)

/-- SHA-512 sum0r on RV32 (R179). -/
def sha512sum0rV (a b : Word32) : Word32 :=
  (a <<< 25) ^^^ (a <<< 30) ^^^ (a >>> 28) ^^^ (b >>> 7) ^^^ (b >>> 2) ^^^ (b <<< 4)

/-- SHA-512 sum1r on RV32 (R180). -/
def sha512sum1rV (a b : Word32) : Word32 :=
  (a <<< 23) ^^^ (a >>> 14) ^^^ (a >>> 18) ^^^ (b >>> 9) ^^^ (b <<< 18) ^^^ (b <<< 14)

/-- SHA-512 sig0 on a 64-bit value (R181; R170 (h)). -/
def sha512sig0V (v : XWord) : XWord := v.rotateRight 1 ^^^ v.rotateRight 8 ^^^ (v >>> 7)

/-- SHA-512 sig1 on a 64-bit value (R182; R170 (h)). -/
def sha512sig1V (v : XWord) : XWord := v.rotateRight 19 ^^^ v.rotateRight 61 ^^^ (v >>> 6)

/-- SHA-512 sum0 on a 64-bit value (R183; R170 (h)). -/
def sha512sum0V (v : XWord) : XWord := v.rotateRight 28 ^^^ v.rotateRight 34 ^^^ v.rotateRight 39

/-- SHA-512 sum1 on a 64-bit value (R184; R170 (h)). -/
def sha512sum1V (v : XWord) : XWord := v.rotateRight 14 ^^^ v.rotateRight 18 ^^^ v.rotateRight 41

/-! ## Meanings -/

/-- `sha256sig0` (R171). -/
def execSha256sig0 (rd rs1 : Reg) (s : State) : Host.Outcome State Fault Refusal :=
  compute (.sha256sig0 rd rs1) (s.opW1 sha256sig0V rs1) s

/-- `sha256sig1` (R172). -/
def execSha256sig1 (rd rs1 : Reg) (s : State) : Host.Outcome State Fault Refusal :=
  compute (.sha256sig1 rd rs1) (s.opW1 sha256sig1V rs1) s

/-- `sha256sum0` (R173). -/
def execSha256sum0 (rd rs1 : Reg) (s : State) : Host.Outcome State Fault Refusal :=
  compute (.sha256sum0 rd rs1) (s.opW1 sha256sum0V rs1) s

/-- `sha256sum1` (R174). -/
def execSha256sum1 (rd rs1 : Reg) (s : State) : Host.Outcome State Fault Refusal :=
  compute (.sha256sum1 rd rs1) (s.opW1 sha256sum1V rs1) s

/-- `sha512sig0h` (R175). -/
def execSha512sig0h (rd rs1 rs2 : Reg) (s : State) : Host.Outcome State Fault Refusal :=
  compute (.sha512sig0h rd rs1 rs2) (s.opW2 sha512sig0hV rs1 rs2) s

/-- `sha512sig0l` (R176). -/
def execSha512sig0l (rd rs1 rs2 : Reg) (s : State) : Host.Outcome State Fault Refusal :=
  compute (.sha512sig0l rd rs1 rs2) (s.opW2 sha512sig0lV rs1 rs2) s

/-- `sha512sig1h` (R177). -/
def execSha512sig1h (rd rs1 rs2 : Reg) (s : State) : Host.Outcome State Fault Refusal :=
  compute (.sha512sig1h rd rs1 rs2) (s.opW2 sha512sig1hV rs1 rs2) s

/-- `sha512sig1l` (R178). -/
def execSha512sig1l (rd rs1 rs2 : Reg) (s : State) : Host.Outcome State Fault Refusal :=
  compute (.sha512sig1l rd rs1 rs2) (s.opW2 sha512sig1lV rs1 rs2) s

/-- `sha512sum0r` (R179). -/
def execSha512sum0r (rd rs1 rs2 : Reg) (s : State) : Host.Outcome State Fault Refusal :=
  compute (.sha512sum0r rd rs1 rs2) (s.opW2 sha512sum0rV rs1 rs2) s

/-- `sha512sum1r` (R180). -/
def execSha512sum1r (rd rs1 rs2 : Reg) (s : State) : Host.Outcome State Fault Refusal :=
  compute (.sha512sum1r rd rs1 rs2) (s.opW2 sha512sum1rV rs1 rs2) s

/-- `sha512sig0` (R181). -/
def execSha512sig0 (rd rs1 : Reg) (s : State) : Host.Outcome State Fault Refusal :=
  compute (.sha512sig0 rd rs1) (sha512sig0V (s.readX rs1)) s

/-- `sha512sig1` (R182). -/
def execSha512sig1 (rd rs1 : Reg) (s : State) : Host.Outcome State Fault Refusal :=
  compute (.sha512sig1 rd rs1) (sha512sig1V (s.readX rs1)) s

/-- `sha512sum0` (R183). -/
def execSha512sum0 (rd rs1 : Reg) (s : State) : Host.Outcome State Fault Refusal :=
  compute (.sha512sum0 rd rs1) (sha512sum0V (s.readX rs1)) s

/-- `sha512sum1` (R184). -/
def execSha512sum1 (rd rs1 : Reg) (s : State) : Host.Outcome State Fault Refusal :=
  compute (.sha512sum1 rd rs1) (sha512sum1V (s.readX rs1)) s

end Sys2Proof.Machine
end

