-- ==== Sys2Proof/Machine/Sm4Sm3.lean ====
section
/-! DEFINITION. Zksed and Zksh, the SM4 and SM3 instructions (spec/44_sm4_sm3.md R190 to R196). -/

namespace Sys2Proof.Machine

/-! ## Values -/

/-- The SM4 S-box as R190 prints it. -/
def sm4SboxRows : List (BitVec 128) :=
  [ 0xD690E9FECCE13DB716B614C228FB2C05
  , 0x2B679A762ABE04C3AA44132649860699
  , 0x9C4250F491EF987A33540B43EDCFAC62
  , 0xE4B31CA9C908E89580DF94FA758F3FA6
  , 0x4707A7FCF37317BA83593C19E6854FA8
  , 0x686B81B27164DA8BF8EB0F4B70569D35
  , 0x1E240E5E6358D1A225227C3B01217887
  , 0xD40046579FD327524C3602E7A0C4C89E
  , 0xEABF8AD240C738B5A3F7F2CEF96115A1
  , 0xE0AE5DA49B341A55AD933230F58CB1E3
  , 0x1DF6E22E8266CA60C02923AB0D534E6F
  , 0xD5DB3745DEFD8E2F03FF6A726D6C5B51
  , 0x8D1BAF92BBDDBC7F11D95C411F105AD8
  , 0x0AC13188A5CD7BBD2D74D012B8E5B4B0
  , 0x8969974A0C96777E65B9F109C56EC684
  , 0x18F07DEC3ADC4D2079EE5F3ED7CB3948 ]

/-- `sm4_sbox` (R190). -/
def sm4Sbox (x : Byte) : Byte := tableByte sm4SboxRows x

/-- The linear layer `y` of `sm4ed` on an S-box output (R192). -/
def sm4edY (x : Word32) : Word32 :=
  x ^^^ (x <<< 8) ^^^ (x <<< 2) ^^^ (x <<< 18) ^^^
    ((x &&& 0x3F) <<< 26) ^^^ ((x &&& 0xC0) <<< 10)

/-- The linear layer `y` of `sm4ks` on an S-box output (R193). -/
def sm4ksY (x : Word32) : Word32 :=
  x ^^^ ((x &&& 0x07) <<< 29) ^^^ ((x &&& 0xFE) <<< 7) ^^^
    ((x &&& 0x01) <<< 23) ^^^ ((x &&& 0xF8) <<< 13)

/-- The common shape of `sm4ed` and `sm4ks`: `rol_32(y, 8 * bs) ^ a` (R192, R193). -/
def sm4Step (y : Word32 → Word32) (bs : BitVec 2) (a b : Word32) : Word32 :=
  (y ((sm4Sbox (selectByte b bs)).setWidth 32)).rotateLeft (bsShamt bs) ^^^ a

/-- SM3 `P0` (R195). -/
def sm3p0V (w : Word32) : Word32 := w ^^^ w.rotateLeft 9 ^^^ w.rotateLeft 17

/-- SM3 `P1` (R196). -/
def sm3p1V (w : Word32) : Word32 := w ^^^ w.rotateLeft 15 ^^^ w.rotateLeft 23

/-! ## Meanings -/

/-- `sm4ed` (R192). -/
def execSm4ed (rd rs1 rs2 : Reg) (bs : BitVec 2) (s : State) : Host.Outcome State Fault Refusal :=
  compute (.sm4ed rd rs1 rs2 bs) (s.opW2 (sm4Step sm4edY bs) rs1 rs2) s

/-- `sm4ks` (R193). -/
def execSm4ks (rd rs1 rs2 : Reg) (bs : BitVec 2) (s : State) : Host.Outcome State Fault Refusal :=
  compute (.sm4ks rd rs1 rs2 bs) (s.opW2 (sm4Step sm4ksY bs) rs1 rs2) s

/-- `sm3p0` (R195). -/
def execSm3p0 (rd rs1 : Reg) (s : State) : Host.Outcome State Fault Refusal :=
  compute (.sm3p0 rd rs1) (s.opW1 sm3p0V rs1) s

/-- `sm3p1` (R196). -/
def execSm3p1 (rd rs1 : Reg) (s : State) : Host.Outcome State Fault Refusal :=
  compute (.sm3p1 rd rs1) (s.opW1 sm3p1V rs1) s

end Sys2Proof.Machine
end

