-- ==== Sys2Proof/Machine/Zbkb.lean ====
section
/-! DEFINITION. Zbkb, bit manipulation for cryptography (spec/40_zbkb.md R100 to R116). Rotates by 0 are
the identity and the word forms truncate before they extend (DEDUCED, spec/90_conflicts.md C7 to C9:
notes/assumptions/24.md). -/

namespace Sys2Proof.Machine

/-! ## Values -/

/-- `a & ~b` (R101). -/
def andnV {w : Nat} (a b : BitVec w) : BitVec w := a &&& ~~~b

/-- `a | ~b` (R102). -/
def ornV {w : Nat} (a b : BitVec w) : BitVec w := a ||| ~~~b

/-- `~(a ^ b)` (R103). -/
def xnorV {w : Nat} (a b : BitVec w) : BitVec w := ~~~(a ^^^ b)

/-- `rol_w(v, n)` (spec/00_scope.md R13). -/
def rolV {w : Nat} (v : BitVec w) (n : Nat) : BitVec w := v.rotateLeft n

/-- `ror_w(v, n)` (R13). -/
def rorV {w : Nat} (v : BitVec w) (n : Nat) : BitVec w := v.rotateRight n

/-- The low halves of `b` and `a`, `b` on top, at twice the half width `h` (R110). -/
def packV (h : Nat) (a b : BitVec (h + h)) : BitVec (h + h) :=
  b.setWidth h ++ a.setWidth h

/-- The low bytes of `b` and `a`, `b` on top, zero-extended (R111). -/
def packhV {w : Nat} (a b : BitVec w) : BitVec w :=
  (b.setWidth 8 ++ a.setWidth 8 : BitVec 16).setWidth w

/-- The low halfwords of `b` and `a` as a 32-bit value, before its sign extension (R112). -/
def packwV (a b : Word32) : Word32 :=
  packV 16 a b

/-- The bits of every byte reversed: `r[8k + j] = v[8k + 7 - j]` (R113; the loop bound of C4). -/
def brev8V {w : Nat} (v : BitVec w) : BitVec w :=
  BitVec.ofFnLE fun i : Fin w => v.getLsbD (8 * (i.val / 8) + (7 - i.val % 8))

/-- The bytes reversed: byte `k` of the result is byte `w/8 - 1 - k` of `v` (R114; C6). -/
def rev8V {w : Nat} (v : BitVec w) : BitVec w :=
  BitVec.ofFnLE fun i : Fin w => v.getLsbD (8 * (w / 8 - 1 - i.val / 8) + i.val % 8)

/-- Bit interleave: `r[2i] = v[i]`, `r[2i + 1] = v[i + 16]` (R115; direction by C15). -/
def zipV (v : Word32) : Word32 :=
  BitVec.ofFnLE fun i : Fin 32 =>
    if i.val % 2 = 0 then v.getLsbD (i.val / 2) else v.getLsbD (i.val / 2 + 16)

/-- Bit deinterleave: `r[i] = v[2i]`, `r[i + 16] = v[2i + 1]` (R116; direction by C15). -/
def unzipV (v : Word32) : Word32 :=
  BitVec.ofFnLE fun i : Fin 32 =>
    if i.val < 16 then v.getLsbD (2 * i.val) else v.getLsbD (2 * (i.val - 16) + 1)

/-! ## Meanings -/

/-- `andn` (R101). -/
def execAndn (rd rs1 rs2 : Reg) (s : State) : Host.Outcome State Fault Refusal :=
  compute (.andn rd rs1 rs2) (s.opX2 andnV andnV rs1 rs2) s

/-- `orn` (R102). -/
def execOrn (rd rs1 rs2 : Reg) (s : State) : Host.Outcome State Fault Refusal :=
  compute (.orn rd rs1 rs2) (s.opX2 ornV ornV rs1 rs2) s

/-- `xnor` (R103). -/
def execXnor (rd rs1 rs2 : Reg) (s : State) : Host.Outcome State Fault Refusal :=
  compute (.xnor rd rs1 rs2) (s.opX2 xnorV xnorV rs1 rs2) s

/-- `rol` (R104). -/
def execRol (rd rs1 rs2 : Reg) (s : State) : Host.Outcome State Fault Refusal :=
  compute (.rol rd rs1 rs2)
    (s.opX2 (fun a b => rolV a (amount5 b)) (fun a b => rolV a (amount6 b)) rs1 rs2) s

/-- `rolw` (R105). -/
def execRolw (rd rs1 rs2 : Reg) (s : State) : Host.Outcome State Fault Refusal :=
  compute (.rolw rd rs1 rs2) (s.opW2 (fun a b => rolV a (amount5 b)) rs1 rs2) s

/-- `ror` (R106). -/
def execRor (rd rs1 rs2 : Reg) (s : State) : Host.Outcome State Fault Refusal :=
  compute (.ror rd rs1 rs2)
    (s.opX2 (fun a b => rorV a (amount5 b)) (fun a b => rorV a (amount6 b)) rs1 rs2) s

/-- `rori` on RV32: a 5-bit amount (R107). -/
def execRoriRv32 (rd rs1 : Reg) (shamt : BitVec 5) (s : State) : Host.Outcome State Fault Refusal :=
  compute (.roriRv32 rd rs1 shamt) (s.opW1 (fun a => rorV a shamt.toNat) rs1) s

/-- `rori` on RV64: a 6-bit amount (R107). -/
def execRoriRv64 (rd rs1 : Reg) (shamt : BitVec 6) (s : State) : Host.Outcome State Fault Refusal :=
  compute (.roriRv64 rd rs1 shamt) (rorV (s.readX rs1) shamt.toNat) s

/-- `roriw` (R108; the amount is 5 bits, C8). -/
def execRoriw (rd rs1 : Reg) (shamt : BitVec 5) (s : State) : Host.Outcome State Fault Refusal :=
  compute (.roriw rd rs1 shamt) (s.opW1 (fun a => rorV a shamt.toNat) rs1) s

/-- `rorw` (R109; truncated before it is extended, C7). -/
def execRorw (rd rs1 rs2 : Reg) (s : State) : Host.Outcome State Fault Refusal :=
  compute (.rorw rd rs1 rs2) (s.opW2 (fun a b => rorV a (amount5 b)) rs1 rs2) s

/-- `pack` (R110). -/
def execPack (rd rs1 rs2 : Reg) (s : State) : Host.Outcome State Fault Refusal :=
  compute (.pack rd rs1 rs2) (s.opX2 (packV 16) (packV 32) rs1 rs2) s

/-- `packh` (R111). -/
def execPackh (rd rs1 rs2 : Reg) (s : State) : Host.Outcome State Fault Refusal :=
  compute (.packh rd rs1 rs2) (s.opX2 packhV packhV rs1 rs2) s

/-- `packw` (R112). -/
def execPackw (rd rs1 rs2 : Reg) (s : State) : Host.Outcome State Fault Refusal :=
  compute (.packw rd rs1 rs2) (s.opW2 packwV rs1 rs2) s

/-- `brev8` (R113). -/
def execBrev8 (rd rs1 : Reg) (s : State) : Host.Outcome State Fault Refusal :=
  compute (.brev8 rd rs1) (s.opX1 brev8V brev8V rs1) s

/-- `rev8` on RV32 (R114). -/
def execRev8Rv32 (rd rs1 : Reg) (s : State) : Host.Outcome State Fault Refusal :=
  compute (.rev8Rv32 rd rs1) (s.opW1 rev8V rs1) s

/-- `rev8` on RV64 (R114). -/
def execRev8Rv64 (rd rs1 : Reg) (s : State) : Host.Outcome State Fault Refusal :=
  compute (.rev8Rv64 rd rs1) (rev8V (s.readX rs1)) s

/-- `zip` (R115). -/
def execZip (rd rs1 : Reg) (s : State) : Host.Outcome State Fault Refusal :=
  compute (.zip rd rs1) (s.opW1 zipV rs1) s

/-- `unzip` (R116). -/
def execUnzip (rd rs1 : Reg) (s : State) : Host.Outcome State Fault Refusal :=
  compute (.unzip rd rs1) (s.opW1 unzipV rs1) s

end Sys2Proof.Machine
end

