-- ==== Sys2Proof/Machine/Zbkc.lean ====
section
/-! DEFINITION. Zbkc carry-less multiply and Zbkx crossbar permutation (spec/41_zbkc_zbkx.md R130 to
R135). The loop bounds are those of spec/90_conflicts.md C4 and C5 (DEDUCED: notes/assumptions/24.md). -/

namespace Sys2Proof.Machine

/-! ## Values -/

/-- The loop of `clmul` over bits 0 .. n-1 of `b` (R131). -/
def clmulLoop {w : Nat} (a b : BitVec w) : Nat → BitVec w
  | 0 => 0
  | i + 1 => clmulLoop a b i ^^^ (if b.getLsbD i then a <<< i else 0)

/-- The low half of the carry-less product (R131). -/
def clmulV {w : Nat} (a b : BitVec w) : BitVec w :=
  clmulLoop a b w

/-- The loop of `clmulh` over bits 1 .. n of `b` (R132). -/
def clmulhLoop {w : Nat} (a b : BitVec w) : Nat → BitVec w
  | 0 => 0
  | i + 1 => clmulhLoop a b i ^^^ (if b.getLsbD (i + 1) then a >>> (w - (i + 1)) else 0)

/-- The high half of the carry-less product: bits 1 .. w-1 of `b` (R132). -/
def clmulhV {w : Nat} (a b : BitVec w) : BitVec w :=
  clmulhLoop a b (w - 1)

/-- Byte `k` of the `xperm8` result: the byte of `a` that byte `k` of `b` names, 0 if there is none
(R134). -/
def xperm8Byte {w : Nat} (a b : BitVec w) (k : Nat) : Byte :=
  if (getByte b k).toNat < w / 8 then getByte a (getByte b k).toNat else 0

/-- `xperm8` (R134). -/
def xperm8V {w : Nat} (a b : BitVec w) : BitVec w :=
  BitVec.ofFnLE fun i : Fin w => (xperm8Byte a b (i.val / 8)).getLsbD (i.val % 8)

/-- Nibble `k` of the `xperm4` result (R135). -/
def xperm4Nibble {w : Nat} (a b : BitVec w) (k : Nat) : BitVec 4 :=
  if (getNibble b k).toNat < w / 4 then getNibble a (getNibble b k).toNat else 0

/-- `xperm4` (R135). -/
def xperm4V {w : Nat} (a b : BitVec w) : BitVec w :=
  BitVec.ofFnLE fun i : Fin w => (xperm4Nibble a b (i.val / 4)).getLsbD (i.val % 4)

/-! ## Meanings -/

/-- `clmul` (R131). -/
def execClmul (rd rs1 rs2 : Reg) (s : State) : Host.Outcome State Fault Refusal :=
  compute (.clmul rd rs1 rs2) (s.opX2 clmulV clmulV rs1 rs2) s

/-- `clmulh` (R132). -/
def execClmulh (rd rs1 rs2 : Reg) (s : State) : Host.Outcome State Fault Refusal :=
  compute (.clmulh rd rs1 rs2) (s.opX2 clmulhV clmulhV rs1 rs2) s

/-- `xperm8` (R134). -/
def execXperm8 (rd rs1 rs2 : Reg) (s : State) : Host.Outcome State Fault Refusal :=
  compute (.xperm8 rd rs1 rs2) (s.opX2 xperm8V xperm8V rs1 rs2) s

/-- `xperm4` (R135). -/
def execXperm4 (rd rs1 rs2 : Reg) (s : State) : Host.Outcome State Fault Refusal :=
  compute (.xperm4 rd rs1 rs2) (s.opX2 xperm4V xperm4V rs1 rs2) s

end Sys2Proof.Machine
end

