-- ==== Sys2Proof/Machine/Zkr.lean ====
section
/-! DEFINITION. Zkr: the `seed` CSR and the entropy source, `mseccfg`, `mseccfgh` and `mnoise`, and the
six CSR instructions that reach them (spec/45_zkr_seed.md R200 to R222, R234). What the environment
decides at a poll is an argument of type `Draw`; the instructions take it from `Config.draw`
(notes/assumptions/8.md). -/

namespace Sys2Proof.Machine

/-! ## The word `seed` returns (spec/10_state.md R28, R29) -/

/-- `OPST` (R29). -/
inductive Opst where
  | bist
  | wait
  | es16
  | dead
deriving DecidableEq, Repr

/-- The two bits of a status (R29). -/
def Opst.code : Opst → BitVec 2
  | .bist => 0b00
  | .wait => 0b01
  | .es16 => 0b10
  | .dead => 0b11

/-- `seed32[31:30]`. -/
def seedOpst (w : Word32) : BitVec 2 := w.extractLsb' 30 2

/-- `seed32[29:24]`, reserved. -/
def seedReserved (w : Word32) : BitVec 6 := w.extractLsb' 24 6

/-- `seed32[23:16]`, custom. -/
def seedCustom (w : Word32) : BitVec 8 := w.extractLsb' 16 8

/-- `seed32[15:0]`. -/
def seedEntropy (w : Word32) : BitVec 16 := w.extractLsb' 0 16

/-- The word of a status, the 14 reserved and custom bits, and the entropy. -/
def seedWord (o : Opst) (aux : BitVec 14) (entropy : BitVec 16) : Word32 :=
  o.code ++ aux ++ entropy

/-! ## A poll (R206 to R213) -/

/-- The statuses a live source outside the noise test may return (R206). A virtual source "does not need
to implement WAIT or BIST" (R212): which of the two it has is a parameter (notes/assumptions/9.md). -/
def EsKind.liveStatuses : EsKind → List Opst
  | .physical _ => [.bist, .wait, .es16, .dead]
  | .virtualDrbg _ hasWait hasBist =>
    [.es16, .dead] ++ (if hasWait then [.wait] else []) ++ (if hasBist then [.bist] else [])

/-- `allowed` of R206: a dead source stays dead (R213), the noise test leaves BIST and DEAD (R234). -/
def allowedStatuses (k : EsKind) (es : EntropySource) : List Opst :=
  if es.dead then [.dead]
  else if es.noiseTest then [.bist, .dead]
  else EsKind.liveStatuses k

/-- The status of a poll: the environment's choice among the allowed ones (R206). -/
def pollStatus (c : Config) (es : EntropySource) (d : Draw) : Opst :=
  let allowed := allowedStatuses c.esKind es
  allowed.getD (d.status % allowed.length) .dead

/-- The 14 reserved and custom bits of a poll (R209; notes/assumptions/11.md). -/
def pollAux (c : Config) (d : Draw) : BitVec 14 :=
  if c.seedAuxZero then 0 else d.aux

/-- The entropy of a poll: the environment's on ES16 (R207), 0 otherwise (R208). -/
def pollEntropy (o : Opst) (d : Draw) : BitVec 16 :=
  if o = .es16 then d.entropy else 0

/-- The word a poll returns. -/
def pollWord (c : Config) (es : EntropySource) (d : Draw) : Word32 :=
  seedWord (pollStatus c es d) (pollAux c d) (pollEntropy (pollStatus c es d) d)

/-- The entropy source after a poll: dead once DEAD has been returned (R206, R213). -/
def EntropySource.afterPoll (es : EntropySource) (o : Opst) : EntropySource :=
  { es with dead := es.dead || decide (o = .dead) }

/-- A permitted access (R203): the polled word, zero-extended, goes to `rd` (R205), `pc` advances. With
`rd = x0` the environment decides whether a poll took place (R220; notes/assumptions/10.md). -/
def State.poll (s : State) (rd : Reg) (d : Draw) : State :=
  let s' := s.retire rd (zextX (pollWord s.cfg s.es d))
  { s' with
    es := if rd = 0 ∧ d.discardPolls = false then s.es
          else EntropySource.afterPoll s.es (pollStatus s.cfg s.es d)
    draws := s.draws + 1 }

/-! ## The six CSR instructions (R202; spec/30_encoding.md R78) -/

/-- What a CSR instruction does to the old value: replace, set bits, clear bits (R217). -/
inductive CsrOp where
  | rw
  | rs
  | rc
deriving DecidableEq, Repr

/-- `is_write` of R202: by encoding alone. `field` is the register number or the `uimm`
(notes/assumptions/19.md). -/
def CsrOp.isWrite (op : CsrOp) (field : BitVec 5) : Bool :=
  decide (op = .rw) || decide (field ≠ 0)

/-- The value a write form writes. -/
def CsrOp.newValue (op : CsrOp) (old src : XWord) : XWord :=
  match op with
  | .rw => src
  | .rs => old ||| src
  | .rc => old &&& ~~~src

/-! ## `seed` (R203, R214, R215) -/

/-- The exception a read-write access to `seed` raises in the state's mode, if any (R203, R214). M mode
is never refused (notes/assumptions/20.md for `virt`). -/
def State.seedDenied (s : State) : Option Exception :=
  match s.priv, s.virt with
  | .m, _ => none
  | .s, false => if s.sseed then none else some .illegalInstruction
  | .u, false => if s.useed then none else some .illegalInstruction
  | .s, true | .u, true =>
    if s.sseed then some .virtualInstruction else some .illegalInstruction

/-- `seed_access` of R203, once Zkr is known to be present: the form first, then the mode (R215), then
the poll. The written value is ignored (R204). -/
def seedAccess (i : Instr) (op : CsrOp) (field : BitVec 5) (d : Draw) (s : State) :
    Host.Outcome State Fault Refusal :=
  if op.isWrite field then
    match s.seedDenied with
    | some e => raiseFrom e i s
    | none => .next (s.poll i.rd d)
  else raiseFrom .illegalInstruction i s

/-! ## `mseccfg`, `mseccfgh` and `mnoise` (R216, R217, R234) -/

/-- Outside M mode an access to a machine CSR raises IllegalInstruction (R217, R234; R251 I8). -/
def machineOnly (i : Instr) (s : State) (k : Host.Outcome State Fault Refusal) :
    Host.Outcome State Fault Refusal :=
  if s.priv = .m then k else raiseFrom .illegalInstruction i s

/-- What a read of `mseccfg` returns: `sseed` in bit 9, `useed` in bit 8, 0 elsewhere (R217; PRESUMED
for the other bits: notes/assumptions/15.md). -/
def State.mseccfg (s : State) : XWord :=
  (if s.sseed then 0x200 else 0) ||| (if s.useed then 0x100 else 0)

/-- A write to `mseccfg`: a bit that is not writable is 0 (R216). -/
def State.writeMseccfg (s : State) (v : XWord) : State :=
  { s with
    sseed := s.cfg.sseedIsWritable && v.getLsbD 9
    useed := s.cfg.useedIsWritable && v.getLsbD 8 }

/-- A CSR instruction on `mseccfg` in M mode (R217): the old value goes to `rd`, the new one is written
if the form writes. -/
def State.accessMseccfg (s : State) (rd : Reg) (op : CsrOp) (field : BitVec 5) (src : XWord) : State :=
  State.retire
    (if op.isWrite field then s.writeMseccfg (op.newValue s.mseccfg src) else s) rd s.mseccfg

/-- A CSR instruction on `mseccfgh` in M mode: it holds nothing, reads 0 and ignores writes (R217;
notes/assumptions/15.md). -/
def State.accessMseccfgh (s : State) (rd : Reg) : State :=
  s.retire rd 0

/-- What a read of `mnoise` returns: NOISE_TEST in bit 31, bits 30:0 unspecified (R234). On RV64 the
32-bit value is zero-extended: the spec gives its width (R33) and states an extension for `seed` alone
(DESIGN CHOICE, unsafe: notes/assumptions/12.md). -/
def State.mnoise (s : State) : XWord :=
  zextX (BitVec.ofBool s.es.noiseTest ++ Config.mnoiseRead s.es.noiseTest s.draws s.pc)

/-- A CSR instruction on `mnoise` in M mode (R234): bit 31 of the written value is NOISE_TEST. No draw
occurs (spec/60_exceptions.md R272). -/
def State.accessMnoise (s : State) (rd : Reg) (op : CsrOp) (field : BitVec 5) (src : XWord) : State :=
  { s.retire rd s.mnoise with
    es := if op.isWrite field then
            { s.es with noiseTest := (op.newValue s.mnoise src).getLsbD 31 }
          else s.es }

/-! ## All CSRs -/

/-- A CSR instruction: `op` with the source value `src` and the source field `field`
(spec/60_exceptions.md R272 (3), (4)). An address without a CSR is refused by `ifWellFormed`. -/
def csrAccess (i : Instr) (csr : CsrAddr) (op : CsrOp) (field : BitVec 5) (src : XWord) (s : State) :
    Host.Outcome State Fault Refusal :=
  ifWellFormed i s <|
    match s.cfg.csrAt csr with
    | some .seed => seedAccess i op field (Config.draw s.draws) s
    | some .mseccfg => machineOnly i s (.next (s.accessMseccfg i.rd op field src))
    | some .mseccfgh => machineOnly i s (.next (s.accessMseccfgh i.rd))
    | some .mnoise => machineOnly i s (.next (s.accessMnoise i.rd op field src))
    | none => raiseFrom .illegalInstruction i s

/-! ## Meanings (R203 on `seed`, R217 on `mseccfg`, R234 on `mnoise`) -/

/-- `csrrw`: always a write (R202). -/
def execCsrrw (rd : Reg) (csr : CsrAddr) (rs1 : Reg) (s : State) : Host.Outcome State Fault Refusal :=
  csrAccess (.csrrw rd csr rs1) csr .rw rs1 (s.readX rs1) s

/-- `csrrs`: a write when the register number is not 0 (R202). -/
def execCsrrs (rd : Reg) (csr : CsrAddr) (rs1 : Reg) (s : State) : Host.Outcome State Fault Refusal :=
  csrAccess (.csrrs rd csr rs1) csr .rs rs1 (s.readX rs1) s

/-- `csrrc`: a write when the register number is not 0 (R202). -/
def execCsrrc (rd : Reg) (csr : CsrAddr) (rs1 : Reg) (s : State) : Host.Outcome State Fault Refusal :=
  csrAccess (.csrrc rd csr rs1) csr .rc rs1 (s.readX rs1) s

/-- `csrrwi`: always a write (R202). -/
def execCsrrwi (rd : Reg) (csr : CsrAddr) (uimm : BitVec 5) (s : State) :
    Host.Outcome State Fault Refusal :=
  csrAccess (.csrrwi rd csr uimm) csr .rw uimm (uimm.setWidth 64) s

/-- `csrrsi`: a write when the immediate is not 0 (R202). -/
def execCsrrsi (rd : Reg) (csr : CsrAddr) (uimm : BitVec 5) (s : State) :
    Host.Outcome State Fault Refusal :=
  csrAccess (.csrrsi rd csr uimm) csr .rs uimm (uimm.setWidth 64) s

/-- `csrrci`: a write when the immediate is not 0 (R202). -/
def execCsrrci (rd : Reg) (csr : CsrAddr) (uimm : BitVec 5) (s : State) :
    Host.Outcome State Fault Refusal :=
  csrAccess (.csrrci rd csr uimm) csr .rc uimm (uimm.setWidth 64) s

end Sys2Proof.Machine
end

