-- ==== Sys2Proof/Machine/Dispatch.lean ====
section
/-! DEFINITION. The meaning of every instruction: one arm per constructor, each one direct call. -/

namespace Sys2Proof.Machine

/-- The meaning of an instruction (spec/60_exceptions.md R272). -/
def exec (i : Instr) (s : State) : Host.Outcome State Fault Refusal :=
  match i with
  | .andn rd rs1 rs2 => Sys2Proof.Machine.execAndn rd rs1 rs2 s
  | .orn rd rs1 rs2 => Sys2Proof.Machine.execOrn rd rs1 rs2 s
  | .xnor rd rs1 rs2 => Sys2Proof.Machine.execXnor rd rs1 rs2 s
  | .rol rd rs1 rs2 => Sys2Proof.Machine.execRol rd rs1 rs2 s
  | .rolw rd rs1 rs2 => Sys2Proof.Machine.execRolw rd rs1 rs2 s
  | .ror rd rs1 rs2 => Sys2Proof.Machine.execRor rd rs1 rs2 s
  | .roriRv32 rd rs1 shamt => Sys2Proof.Machine.execRoriRv32 rd rs1 shamt s
  | .roriRv64 rd rs1 shamt => Sys2Proof.Machine.execRoriRv64 rd rs1 shamt s
  | .roriw rd rs1 shamt => Sys2Proof.Machine.execRoriw rd rs1 shamt s
  | .rorw rd rs1 rs2 => Sys2Proof.Machine.execRorw rd rs1 rs2 s
  | .pack rd rs1 rs2 => Sys2Proof.Machine.execPack rd rs1 rs2 s
  | .packh rd rs1 rs2 => Sys2Proof.Machine.execPackh rd rs1 rs2 s
  | .packw rd rs1 rs2 => Sys2Proof.Machine.execPackw rd rs1 rs2 s
  | .brev8 rd rs1 => Sys2Proof.Machine.execBrev8 rd rs1 s
  | .rev8Rv32 rd rs1 => Sys2Proof.Machine.execRev8Rv32 rd rs1 s
  | .rev8Rv64 rd rs1 => Sys2Proof.Machine.execRev8Rv64 rd rs1 s
  | .zip rd rs1 => Sys2Proof.Machine.execZip rd rs1 s
  | .unzip rd rs1 => Sys2Proof.Machine.execUnzip rd rs1 s
  | .clmul rd rs1 rs2 => Sys2Proof.Machine.execClmul rd rs1 rs2 s
  | .clmulh rd rs1 rs2 => Sys2Proof.Machine.execClmulh rd rs1 rs2 s
  | .xperm8 rd rs1 rs2 => Sys2Proof.Machine.execXperm8 rd rs1 rs2 s
  | .xperm4 rd rs1 rs2 => Sys2Proof.Machine.execXperm4 rd rs1 rs2 s
  | .aes32dsi rd rs1 rs2 bs => Sys2Proof.Machine.execAes32dsi rd rs1 rs2 bs s
  | .aes32dsmi rd rs1 rs2 bs => Sys2Proof.Machine.execAes32dsmi rd rs1 rs2 bs s
  | .aes32esi rd rs1 rs2 bs => Sys2Proof.Machine.execAes32esi rd rs1 rs2 bs s
  | .aes32esmi rd rs1 rs2 bs => Sys2Proof.Machine.execAes32esmi rd rs1 rs2 bs s
  | .aes64ds rd rs1 rs2 => Sys2Proof.Machine.execAes64ds rd rs1 rs2 s
  | .aes64dsm rd rs1 rs2 => Sys2Proof.Machine.execAes64dsm rd rs1 rs2 s
  | .aes64es rd rs1 rs2 => Sys2Proof.Machine.execAes64es rd rs1 rs2 s
  | .aes64esm rd rs1 rs2 => Sys2Proof.Machine.execAes64esm rd rs1 rs2 s
  | .aes64im rd rs1 => Sys2Proof.Machine.execAes64im rd rs1 s
  | .aes64ks1i rd rs1 rnum => Sys2Proof.Machine.execAes64ks1i rd rs1 rnum s
  | .aes64ks2 rd rs1 rs2 => Sys2Proof.Machine.execAes64ks2 rd rs1 rs2 s
  | .sha256sig0 rd rs1 => Sys2Proof.Machine.execSha256sig0 rd rs1 s
  | .sha256sig1 rd rs1 => Sys2Proof.Machine.execSha256sig1 rd rs1 s
  | .sha256sum0 rd rs1 => Sys2Proof.Machine.execSha256sum0 rd rs1 s
  | .sha256sum1 rd rs1 => Sys2Proof.Machine.execSha256sum1 rd rs1 s
  | .sha512sig0h rd rs1 rs2 => Sys2Proof.Machine.execSha512sig0h rd rs1 rs2 s
  | .sha512sig0l rd rs1 rs2 => Sys2Proof.Machine.execSha512sig0l rd rs1 rs2 s
  | .sha512sig1h rd rs1 rs2 => Sys2Proof.Machine.execSha512sig1h rd rs1 rs2 s
  | .sha512sig1l rd rs1 rs2 => Sys2Proof.Machine.execSha512sig1l rd rs1 rs2 s
  | .sha512sum0r rd rs1 rs2 => Sys2Proof.Machine.execSha512sum0r rd rs1 rs2 s
  | .sha512sum1r rd rs1 rs2 => Sys2Proof.Machine.execSha512sum1r rd rs1 rs2 s
  | .sha512sig0 rd rs1 => Sys2Proof.Machine.execSha512sig0 rd rs1 s
  | .sha512sig1 rd rs1 => Sys2Proof.Machine.execSha512sig1 rd rs1 s
  | .sha512sum0 rd rs1 => Sys2Proof.Machine.execSha512sum0 rd rs1 s
  | .sha512sum1 rd rs1 => Sys2Proof.Machine.execSha512sum1 rd rs1 s
  | .sm4ed rd rs1 rs2 bs => Sys2Proof.Machine.execSm4ed rd rs1 rs2 bs s
  | .sm4ks rd rs1 rs2 bs => Sys2Proof.Machine.execSm4ks rd rs1 rs2 bs s
  | .sm3p0 rd rs1 => Sys2Proof.Machine.execSm3p0 rd rs1 s
  | .sm3p1 rd rs1 => Sys2Proof.Machine.execSm3p1 rd rs1 s
  | .csrrw rd csr rs1 => Sys2Proof.Machine.execCsrrw rd csr rs1 s
  | .csrrs rd csr rs1 => Sys2Proof.Machine.execCsrrs rd csr rs1 s
  | .csrrc rd csr rs1 => Sys2Proof.Machine.execCsrrc rd csr rs1 s
  | .csrrwi rd csr uimm => Sys2Proof.Machine.execCsrrwi rd csr uimm s
  | .csrrsi rd csr uimm => Sys2Proof.Machine.execCsrrsi rd csr uimm s
  | .csrrci rd csr uimm => Sys2Proof.Machine.execCsrrci rd csr uimm s

end Sys2Proof.Machine
end

