-- ==== Sys2Proof/Machine/Place.lean ====
section
/-! DEFINITION. Placing one instruction where the next step fetches it: what `State.withFetchWord` of
Machine/Step.lean calls (notes/assumptions/22.md). -/

namespace Sys2Proof.Machine

/-- The other base width. -/
def otherXlen : Xlen → Xlen
  | .rv32 => .rv64
  | .rv64 => .rv32

/-- A word is an instruction of a configuration. -/
def isInstruction (c : Config) (w : Word32) : Bool :=
  match decodeWord c w with
  | .instr _ => true
  | .rejected _ => false

/-- The width at which the word is an instruction: the configured one, unless only the other has it. -/
def placeXlen (c : Config) (w : Word32) : Xlen :=
  if !isInstruction c w && isInstruction (c.withXlen (otherXlen c.xlen)) w then otherXlen c.xlen
  else c.xlen

/-- The word at `pc`, its four bytes in the order the fetch reads them, on a hart of a width that has
the instruction. -/
def placeWord (s : State) (w : Word32) : State :=
  State.writeBytes { s with cfg := s.cfg.withXlen (placeXlen s.cfg w) } s.pc 0 (bytesOfWord w)

/-- The table's numbering of an instruction's bits: one 32-bit word, bits above `nbits` are 0. -/
def tableWord (nbits w : Nat) : Word32 :=
  BitVec.ofNat 32 (w % 2 ^ nbits)

end Sys2Proof.Machine
end

