-- ==== Sys2Proof/Machine/Step.lean ====
section
/-! DEFINITION. One step of a machine of this spec alone (spec/60_exceptions.md R260, R272): fetch,
decode, execute. -/

namespace Sys2Proof.Machine

/-- The step of R272: a fetched word that is no instruction raises IllegalInstruction (R90; R251 I1, I5,
I6, I7; notes/assumptions/21.md), any other has its meaning. Fetch faults come first (R259). -/
def step (s : State) : Host.Outcome State Fault Refusal :=
  match fetch s with
  | .error f => .fault f
  | .ok w =>
    match decodeWord s.cfg w with
    | .instr i => exec i s
    | .rejected _ => raise .illegalInstruction w s

/-- The state with the instruction of a table word stored where `step` fetches
(notes/assumptions/22.md). -/
def State.withFetchWord (s : State) (nbits w : Nat) : State :=
  placeWord s (tableWord nbits w)

end Sys2Proof.Machine
end

