-- ==== Sys2Proof/Machine/Composed.lean ====
section
/-! DEFINITION. The hooks for a base machine (spec/00_scope.md R17; spec/30_encoding.md R90;
spec/60_exceptions.md R260): a word this spec does not assign goes to the base machine, a trap goes to
its `trap_entry`. Both are arguments, nothing is said about them (notes/assumptions/33.md). Both act on
this State alone (notes/assumptions/37.md). -/

namespace Sys2Proof.Machine

/-- The type of a base machine's handling of a word this spec does not assign. It acts on this State alone,
which has no room for state of the base machine's own, where the spec leaves open where that is kept
(R17; DESIGN CHOICE, unsafe: notes/assumptions/37.md). -/
abbrev BaseStep := Word32 → State → Host.Outcome State Fault Refusal

/-- The type of `trap_entry` (R260): the unchanged state, the cause code, the address, the word. The `state`
of R260 is this State alone, without trap CSRs or other state of a base machine (R17; DESIGN CHOICE,
unsafe: notes/assumptions/37.md). -/
abbrev TrapEntry := State → Nat → XWord → Word32 → State

/-- A trap handed to `trap_entry`; every other outcome as it is. -/
def deliver (entry : TrapEntry) (s : State) (o : Host.Outcome State Fault Refusal) :
    Host.Outcome State Fault Refusal :=
  match o with
  | .fault (.trap t) => .next (entry s (t.code s.cfg) t.pc t.inst)
  | .fault (.fetchMisaligned a) => .fault (.fetchMisaligned a)
  | .fault (.fetchAbsent a) => .fault (.fetchAbsent a)
  | .next s' => .next s'
  | .refused r => .refused r

/-- A rejected word belongs to the base machine when no row matches it under R85 (R90; R272 (1)), which
takes in the reserved `rori` of RV32: it matches no row of that XLEN, and
spec/92_eei_decisions.md D5 offers it to the base machine first. The round numbers R86 (a) reserves match
the row of `aes64ks1i` and trap here (R272 (2)). Of the CSR instructions at an address without a CSR those
at the address of `seed` trap here (R221), the others are the base machine's
(notes/assumptions/33.md). -/
def forBase (r : Reject) (w : Word32) : Bool :=
  match r with
  | .truncated | .reservedRnum => false
  | .absentCsr => fieldCsr w != seedAddr
  | .unassigned | .otherXlen | .extensionAbsent | .reservedShamt => true

/-- One step of a composed machine. The fetch reads the memory of the state as it stands, so what a base
machine's step stored is fetched by the very next step: a fetch cache and `FENCE.I` are not modelled, where
the spec takes the base ISA's rule (spec/20_memory.md R64; DESIGN CHOICE, unsafe:
notes/assumptions/36.md). -/
def stepComposed (base : BaseStep) (entry : TrapEntry) (s : State) :
    Host.Outcome State Fault Refusal :=
  match fetch s with
  | .error f => .fault f
  | .ok w =>
    deliver entry s
      (match decodeWord s.cfg w with
      | .instr i => exec i s
      | .rejected r => if forBase r w then base w s else raise .illegalInstruction w s)

end Sys2Proof.Machine
end

