-- ==== Sys2Proof/Machine/Zkt.lean ====
section
/-! DEFINITION. Zkt, data-independent execution latency (spec/46_zkt.md R240 to R249). Zkt changes no
result, adds no state and raises no exception (R249): this file is the labelling a side-channel analysis
uses (spec/92_eei_decisions.md D21). The contract on a cost function is in Safety.lean. -/

namespace Sys2Proof.Machine

/-- Why an instruction's latency must not depend on data. -/
inductive LatencyRule where
  /-- The sentence of the instruction's own page, whether or not Zkt is claimed (R244). -/
  | always
  /-- The Zkt list only (R247). -/
  | underZkt
  /-- No requirement: "every CSR instruction" is off the list (R245). -/
  | free
deriving DecidableEq, Repr

/-- The rule of every instruction of this spec: the 29 of R244, the 20 of R247's RVB list, the CSR
instructions. -/
def Instr.latencyRule : Instr → LatencyRule
  | .aes32dsi .. | .aes32dsmi .. | .aes32esi .. | .aes32esmi .. | .aes64ds .. | .aes64dsm .. | .aes64es .. | .aes64esm ..
  | .aes64im .. | .aes64ks1i .. | .aes64ks2 .. | .sha256sig0 .. | .sha256sig1 .. | .sha256sum0 .. | .sha256sum1 .. | .sha512sig0h ..
  | .sha512sig0l .. | .sha512sig1h .. | .sha512sig1l .. | .sha512sum0r .. | .sha512sum1r .. | .sha512sig0 .. | .sha512sig1 .. | .sha512sum0 ..
  | .sha512sum1 .. | .sm4ed .. | .sm4ks .. | .sm3p0 .. | .sm3p1 .. => .always
  | .andn .. | .orn .. | .xnor .. | .rol .. | .rolw .. | .ror .. | .roriRv32 .. | .roriRv64 ..
  | .roriw .. | .rorw .. | .pack .. | .packh .. | .packw .. | .brev8 .. | .rev8Rv32 .. | .rev8Rv64 ..
  | .zip .. | .unzip .. | .clmul .. | .clmulh .. | .xperm8 .. | .xperm4 .. => .underZkt
  | .csrrw .. | .csrrs .. | .csrrc .. | .csrrwi .. | .csrrsi .. | .csrrci .. => .free

/-- The latency of an instruction must be independent of data under an extension set (R244, R247). -/
def Instr.dataIndependent (e : Ext) (i : Instr) : Bool :=
  match Instr.latencyRule i with
  | .always => true
  | .underZkt => e.zkt
  | .free => false

/-- The registers an instruction reads: at most two (R6; spec/10_state.md R23). A CSR form with an
immediate reads none. -/
def Instr.sources : Instr → List Reg
  | .andn _ rs1 rs2 | .orn _ rs1 rs2 | .xnor _ rs1 rs2 | .rol _ rs1 rs2 | .rolw _ rs1 rs2 | .ror _ rs1 rs2
  | .rorw _ rs1 rs2 | .pack _ rs1 rs2 | .packh _ rs1 rs2 | .packw _ rs1 rs2 | .clmul _ rs1 rs2 | .clmulh _ rs1 rs2
  | .xperm8 _ rs1 rs2 | .xperm4 _ rs1 rs2 | .aes32dsi _ rs1 rs2 _ | .aes32dsmi _ rs1 rs2 _ | .aes32esi _ rs1 rs2 _ | .aes32esmi _ rs1 rs2 _
  | .aes64ds _ rs1 rs2 | .aes64dsm _ rs1 rs2 | .aes64es _ rs1 rs2 | .aes64esm _ rs1 rs2 | .aes64ks2 _ rs1 rs2 | .sha512sig0h _ rs1 rs2
  | .sha512sig0l _ rs1 rs2 | .sha512sig1h _ rs1 rs2 | .sha512sig1l _ rs1 rs2 | .sha512sum0r _ rs1 rs2 | .sha512sum1r _ rs1 rs2 | .sm4ed _ rs1 rs2 _
  | .sm4ks _ rs1 rs2 _ =>
    [rs1, rs2]
  | .roriRv32 _ rs1 _ | .roriRv64 _ rs1 _ | .roriw _ rs1 _ | .brev8 _ rs1 | .rev8Rv32 _ rs1 | .rev8Rv64 _ rs1
  | .zip _ rs1 | .unzip _ rs1 | .aes64im _ rs1 | .aes64ks1i _ rs1 _ | .sha256sig0 _ rs1 | .sha256sig1 _ rs1
  | .sha256sum0 _ rs1 | .sha256sum1 _ rs1 | .sha512sig0 _ rs1 | .sha512sig1 _ rs1 | .sha512sum0 _ rs1 | .sha512sum1 _ rs1
  | .sm3p0 _ rs1 | .sm3p1 _ rs1 | .csrrw _ _ rs1 | .csrrs _ _ rs1 | .csrrc _ _ rs1 =>
    [rs1]
  | .csrrwi _ _ _ | .csrrsi _ _ _ | .csrrci _ _ _ =>
    []

/-- A name on a Zkt list whose instruction another document defines, and the widths it is listed for
(R245, R246). -/
structure ZktName where
  name : String
  rv32 : Bool
  rv64 : Bool
deriving DecidableEq, Repr

/-- The listings of both widths. -/
def zktBoth (names : List String) : List ZktName :=
  names.map fun n => ⟨n, true, true⟩

/-- The listings of RV64 only. -/
def zktRv64 (names : List String) : List ZktName :=
  names.map fun n => ⟨n, false, true⟩

/-- The RVI list (R245). -/
def zktRvi : List ZktName :=
  zktBoth ["lui", "auipc", "addi", "slti", "sltiu", "xori", "ori", "andi", "slli", "srli", "srai"] ++
  zktBoth ["add", "sub", "sll", "slt", "sltu", "xor", "srl", "sra", "or", "and"] ++
  zktRv64 ["addiw", "slliw", "srliw", "sraiw", "addw", "subw", "sllw", "srlw", "sraw"]

/-- The RVM list (R245). -/
def zktRvm : List ZktName :=
  zktBoth ["mul", "mulh", "mulhsu", "mulhu"] ++ zktRv64 ["mulw"]

/-- The RVC list (R246). -/
def zktRvc : List ZktName :=
  zktBoth ["c.nop", "c.addi", "c.lui", "c.srli", "c.srai", "c.andi", "c.sub", "c.xor"] ++
  zktBoth ["c.or", "c.and", "c.slli", "c.mv", "c.add"] ++
  zktRv64 ["c.addiw", "c.subw", "c.addw"]

/-- The names the Zkt lists take from the base machine: R245 and R246. -/
def zktBaseNames : List ZktName :=
  zktRvi ++ zktRvm ++ zktRvc

end Sys2Proof.Machine
end

