-- ==== Sys2Proof/Safety.lean ====
section
/-! DEFINITION. The terms claims are stated in: the invariant of the states a run can reach, runs that
meet no trap, agreement of states, and the latency contracts. -/

namespace Sys2Proof.Machine

/-- Every register entry is an XLEN-bit value in its 64-bit home (notes/assumptions/2.md). -/
def State.regsFit (s : State) : Prop :=
  ∀ r : Fin 32, (s.x[r]).toNat < 2 ^ s.cfg.xlen.bits

/-- The mode exists (spec/10_state.md R26; spec/92_eei_decisions.md D16). -/
def State.modeExists (s : State) : Prop :=
  (s.priv = .s → s.cfg.hasS = true) ∧ (s.priv = .u → s.cfg.hasU = true) ∧
  (s.virt = true → s.cfg.hasH = true ∧ s.priv ≠ .m)

/-- What holds of the state in every run of an accepted configuration. -/
structure State.Inv (s : State) : Prop where
  /-- The configuration is one the spec accepts. -/
  cfgWf : s.cfg.wf = true
  /-- Memory is in its canonical form. -/
  memWf : s.mem.wf = true
  /-- Memory lies in the address space. -/
  memFits : ∀ cell ∈ s.mem, cell.1 < 2 ^ s.cfg.xlen.bits
  /-- Registers are XLEN bits wide (R21). -/
  regs : s.regsFit
  /-- `pc` is XLEN bits wide (R24). -/
  pcFits : s.pc.toNat < 2 ^ s.cfg.xlen.bits
  /-- `pc` is aligned (spec/20_memory.md R52). -/
  pcAligned : s.pc.toNat % s.cfg.pcAlign = 0
  /-- The mode exists (R26). -/
  mode : s.modeExists
  /-- `sseed` is 1 only if it can be written (R32). -/
  sseedOk : s.sseed = true → s.cfg.sseedIsWritable = true
  /-- `useed` is 1 only if it can be written (R32). -/
  useedOk : s.useed = true → s.cfg.useedIsWritable = true
  /-- The noise test runs only where `mnoise` exists (R33). -/
  noiseOk : s.es.noiseTest = true → s.cfg.mnoise.isSome = true

/-- `k` steps from a state complete: no trap is met (spec/60_exceptions.md R260). -/
def State.trapFree (k : Nat) (s : State) : Prop :=
  ∃ s', Sys2Proof.core.run k s = .next s'

/-- Two states differ in register contents only. -/
def sameButRegs (s t : State) : Prop :=
  t = { s with x := t.x }

/-- Two states differ in register contents and memory only. -/
def sameButRegsAndMem (s t : State) : Prop :=
  t = { s with x := t.x, mem := t.mem }

/-- Two states hold the same values in the registers of a list. -/
def agreeOn (rs : List Reg) (s t : State) : Prop :=
  ∀ r ∈ rs, s.readX r = t.readX r

/-- Nothing changed but the registers and `pc`. -/
def onlyRegsAndPc (s t : State) : Prop :=
  t.cfg = s.cfg ∧ t.priv = s.priv ∧ t.virt = s.virt ∧ t.sseed = s.sseed ∧ t.useed = s.useed ∧
  t.es = s.es ∧ t.mem = s.mem ∧ t.draws = s.draws

/-- No register but `rd` changed. -/
def onlyRegister (rd : Reg) (s t : State) : Prop :=
  ∀ r : Reg, r ≠ rd → t.readX r = s.readX r

/-- One of the six forms of CSR instruction (spec/45_zkr_seed.md R202), as data: `imm` is true for the
immediate forms, whose `field` is the `uimm` and not a register number. -/
structure CsrForm where
  op : CsrOp
  imm : Bool
  rd : Reg
  csr : CsrAddr
  field : BitVec 5
deriving DecidableEq, Repr

/-- The instruction of a form: all six CSR constructors and no other. -/
def CsrForm.instr (f : CsrForm) : Instr :=
  match f.op, f.imm with
  | .rw, false => .csrrw f.rd f.csr f.field
  | .rs, false => .csrrs f.rd f.csr f.field
  | .rc, false => .csrrc f.rd f.csr f.field
  | .rw, true => .csrrwi f.rd f.csr f.field
  | .rs, true => .csrrsi f.rd f.csr f.field
  | .rc, true => .csrrci f.rd f.csr f.field

/-- The form is a read-write form (R202). -/
def CsrForm.isWrite (f : CsrForm) : Bool :=
  f.op.isWrite f.field

/-- The source value of a form: the immediate, or the register's content. -/
def CsrForm.source (f : CsrForm) (s : State) : XWord :=
  if f.imm then f.field.setWidth 64 else s.readX f.field

/-- The Zkt contract on a cost function (spec/46_zkt.md R240, R244): the cost of a listed instruction does
not change when the values in its source and destination registers do. -/
def LatencyContract (cost : Instr → State → Nat) : Prop :=
  ∀ (i : Instr) (s t : State), Instr.dataIndependent s.cfg.ext i = true →
    sameButRegs s t → (∀ r : Reg, r ∉ Instr.sources i → r ≠ i.rd → s.readX r = t.readX r) →
    cost i s = cost i t

/-- The advice on the latency of a poll (R248): it does not depend on the entropy delivered. -/
def SeedLatencyAdvice (cost : Config → EntropySource → Draw → Nat) : Prop :=
  ∀ (c : Config) (es : EntropySource) (d : Draw) (e : BitVec 16),
    cost c es { d with entropy := e } = cost c es d

end Sys2Proof.Machine
end

