-- ==== Sys2Proof/Terms.lean ====
section
/-! DEFINITION. The vocabulary of the statements: results bit by bit and byte by byte, the frame of an
instruction, outcomes, and the published shape of AES. Nothing of the machine is defined here. -/

namespace Sys2Proof.Machine

/-! ## Values, described without the functions that compute them -/

/-- The low `n` bits of a value are `f 0` to `f (n - 1)`, the others are 0. -/
def hasBits (n : Nat) (v : XWord) (f : Nat → Bool) : Prop :=
  ∀ k < 64, v.getLsbD k = (decide (k < n) && f k)

/-- The value is an XLEN-bit sign extension of a word with bits `f 0` to `f 31`. -/
def hasWordBits (x : Xlen) (v : XWord) (f : Nat → Bool) : Prop :=
  hasBits x.bits v fun k => f (min k 31)

/-- The low `n` bytes of a value are `f 0` to `f (n - 1)`, the others are 0. -/
def hasBytes (n : Nat) (v : XWord) (f : Nat → Byte) : Prop :=
  ∀ k < 8, v.extractLsb' (8 * k) 8 = if k < n then f k else 0

/-- Bit `j` of the carry-less product of two values: the parity of the partial products that reach it
(spec/41_zbkc_zbkx.md R131). -/
def productBit (a b : XWord) (j : Nat) : Bool :=
  ((List.range 64).countP fun i => b.getLsbD i && decide (i ≤ j) && a.getLsbD (j - i)) % 2 == 1

/-- Byte `i` of the AES state held in two registers (spec/42_aes.md R140 (g), R146): column `i / 4`, row
`i % 4`. -/
def stateByte (a b : XWord) (i : Nat) : Byte :=
  if i < 8 then a.extractLsb' (8 * i) 8 else b.extractLsb' (8 * (i - 8)) 8

/-- The state byte that ShiftRows moves to position `i`: row `r` comes from `r` columns further on. -/
def shiftRowsFrom (i : Nat) : Nat := 4 * ((i / 4 + i % 4) % 4) + i % 4

/-- The state byte that inverse ShiftRows moves to position `i`. -/
def invShiftRowsFrom (i : Nat) : Nat := 4 * ((i / 4 + 4 - i % 4) % 4) + i % 4

/-- The first row of the MixColumns matrix, `2 3 1 1` (R145). -/
def mixRow (k : Nat) : BitVec 4 :=
  match k % 4 with
  | 0 => 0x2
  | 1 => 0x3
  | _ => 0x1

/-- The first row of the inverse MixColumns matrix, `E B D 9` (R145). -/
def invMixRow (k : Nat) : BitVec 4 :=
  match k % 4 with
  | 0 => 0xE
  | 1 => 0xB
  | 2 => 0xD
  | _ => 0x9

/-- Row `r` of a circulant matrix, given by its first row, times a column of bytes. -/
def mixByte (row : Nat → BitVec 4) (col : Nat → Byte) (r : Nat) : Byte :=
  gfmul (col 0) (row (4 - r)) ^^^ gfmul (col 1) (row (5 - r)) ^^^
    gfmul (col 2) (row (6 - r)) ^^^ gfmul (col 3) (row (7 - r))

/-! ## Outcomes -/

/-- The outcome of an instruction that completes: `rd` holds a value with the property `P` (register 0
still 0), `pc` is 4 further modulo 2^XLEN, and no other register, no CSR, no mode, no entropy-source state
and no byte of memory has changed. -/
def completes (i : Instr) (s : State) (P : XWord → Prop) : Prop :=
  ∃ t, exec i s = .next t ∧ (i.rd ≠ 0 → P (t.readX i.rd)) ∧ t.readX 0 = 0 ∧
    t.pc.toNat = (s.pc.toNat + 4) % 2 ^ s.cfg.xlen.bits ∧
    onlyRegister i.rd s t ∧ onlyRegsAndPc s t ∧ ∀ a : Nat, t.mem.read a = s.mem.read a

/-- The outcome of an instruction that raises an exception (spec/60_exceptions.md R256, R260). -/
def traps (i : Instr) (s : State) (e : Exception) : Prop :=
  exec i s = .fault (.trap ⟨e, s.pc, encode i⟩)

/-- Memory holds these four bytes at `pc`, which is aligned. -/
def holdsAtPc (s : State) (b0 b1 b2 b3 : Byte) : Prop :=
  s.pc.toNat % s.cfg.pcAlign = 0 ∧
  s.mem.read (addrAt s.cfg.xlen s.pc 0) = some b0 ∧ s.mem.read (addrAt s.cfg.xlen s.pc 1) = some b1 ∧
  s.mem.read (addrAt s.cfg.xlen s.pc 2) = some b2 ∧ s.mem.read (addrAt s.cfg.xlen s.pc 3) = some b3

/-! ## Access to `seed` -/

/-- The five modes of spec/10_state.md R26. -/
inductive Mode where
  | m
  | s
  | u
  | vs
  | vu
deriving DecidableEq, Repr

/-- The state is in a mode. -/
def State.inMode (s : State) : Mode → Prop
  | .m => s.priv = .m ∧ s.virt = false
  | .s => s.priv = .s ∧ s.virt = false
  | .u => s.priv = .u ∧ s.virt = false
  | .vs => s.priv = .s ∧ s.virt = true
  | .vu => s.priv = .u ∧ s.virt = true

/-- The mode may poll `seed` (spec/45_zkr_seed.md R214). -/
def State.granted (s : State) : Prop :=
  s.inMode .m ∨ (s.inMode .s ∧ s.sseed = true) ∨ (s.inMode .u ∧ s.useed = true)

/-- The word of a form of CSR instruction, with the parts that R204 says do not matter: two forms with
the same destination and address. -/
def CsrForm.alike (f g : CsrForm) : Prop :=
  f.rd = g.rd ∧ f.csr = g.csr

/-- The same state with Zkt in or out of `EXT`. -/
def State.withZkt (s : State) (b : Bool) : State :=
  { s with cfg := { s.cfg with ext := { s.cfg.ext with zkt := b } } }

/-- The same state in another mode, with other access bits and another entropy source. -/
def State.withPrivilege (s : State) (p : Priv) (v a b : Bool) (es : EntropySource) : State :=
  { s with priv := p, virt := v, sseed := a, useed := b, es := es }

end Sys2Proof.Machine
end

