-- ==== Sys2Proof/Certificates/Slice0/Obligations.lean ====
section
/-! DEFINITION. The statements about the model. Each docstring names the rules of spec/ a statement
formalises, or says that it rests on a choice of the model and names the log entry. -/

open Sys2Proof Sys2Proof.Machine

/-! ## Decoding and encoding -/

/-- Decoding the word of a well-formed instruction gives it back, under every configuration (R72 to R78,
R80 to R85). -/
def Obligations.DecodeOfEncode : Prop :=
  ∀ (c : Config) (i : Instr), i.wellFormed c = true → decodeWord c (encode i) = .instr i

/-- Every word that decodes is the encoding of what it decodes to, which is well formed: no bit of a word
is dropped (R85, R90). -/
def Obligations.EncodeOfDecode : Prop :=
  ∀ (c : Config) (w : Word32) (i : Instr), decodeWord c w = .instr i →
    encode i = w ∧ i.wellFormed c = true

/-- Within one XLEN no two decode rows match the same word (R85). -/
def Obligations.DecodeRowsDisjoint : Prop :=
  ∀ (x : Xlen) (w : Word32) (m n : Nat) (r r' : DecodeRow),
    decodeRows[m]? = some r → decodeRows[n]? = some r' →
    r.matchesWord w = true → (r.build w).onXlen x = true →
    r'.matchesWord w = true → (r'.build w).onXlen x = true → m = n

/-- Words written out field by field decode to what they stand for: at least one of every extension with
instructions and of every opcode of R80 to R84. The word of `zip` is the one R93 corrects (conflict C2:
log entry 23). The last word is not of those tables: it is the example of R217, `csrrs` on `mseccfg`, whose
address is D19 (log entry 15), with the CSR encodings of log entry 19. -/
def Obligations.SpecWordsDecode : Prop :=
  decodeWord (tableConfig .rv64) 0x40C5F533 = .instr (.andn 10 11 12) ∧
  decodeWord (tableConfig .rv64) 0x6245D513 = .instr (.roriRv64 10 11 36) ∧
  decodeWord (tableConfig .rv64) 0x60C5953B = .instr (.rolw 10 11 12) ∧
  decodeWord (tableConfig .rv64) 0x61F5D51B = .instr (.roriw 10 11 31) ∧
  decodeWord (tableConfig .rv64) 0x28C5C533 = .instr (.xperm8 10 11 12) ∧
  decodeWord (tableConfig .rv32) 0x6985D513 = .instr (.rev8Rv32 10 11) ∧
  decodeWord (tableConfig .rv32) 0x08F59513 = .instr (.zip 10 11) ∧
  decodeWord (tableConfig .rv64) 0x0AC5B533 = .instr (.clmulh 10 11 12) ∧
  decodeWord (tableConfig .rv32) 0xA2C58533 = .instr (.aes32esi 10 11 12 2) ∧
  decodeWord (tableConfig .rv64) 0x31359513 = .instr (.aes64ks1i 10 11 3) ∧
  decodeWord (tableConfig .rv32) 0x5CA58333 = .instr (.sha512sig0h 6 11 10) ∧
  decodeWord (tableConfig .rv64) 0x70C58533 = .instr (.sm4ed 10 11 12 1) ∧
  decodeWord (tableConfig .rv64) 0x10859513 = .instr (.sm3p0 10 11) ∧
  decodeWord (tableConfig .rv64) 0x01501573 = .instr (.csrrw 10 0x015 0) ∧
  decodeWord (tableConfig .rv64) 0x74702573 = .instr (.csrrs 10 0x747 0)

/-! ## The step -/

/-- A step executes the instruction that the four bytes at `pc` decode to, and does nothing else (R272;
byte order and alignment are D8 and D9: log entry 18). -/
def Obligations.StepRunsDecodedInstruction : Prop :=
  ∀ (s : State) (b0 b1 b2 b3 : Byte) (i : Instr), holdsAtPc s b0 b1 b2 b3 →
    decode s.cfg [b0, b1, b2, b3] = .instr i → step s = exec i s

/-- Four bytes at `pc` that decode to no instruction raise IllegalInstruction with the word they form
(R90, R272 (1), (2); D5: log entries 18 and 21). -/
def Obligations.StepTrapsOnOtherWords : Prop :=
  ∀ (s : State) (b0 b1 b2 b3 : Byte) (r : Reject), holdsAtPc s b0 b1 b2 b3 →
    decode s.cfg [b0, b1, b2, b3] = .rejected r →
    step s = .fault (.trap ⟨.illegalInstruction, s.pc, b3 ++ b2 ++ b1 ++ b0⟩)

/-- The model's choice (log entries 17 and 18): a `pc` that is not aligned, and the first of the four
addresses from `pc` on that holds no byte, stop the fetch, before anything of the instruction is looked at
(R259). -/
def Obligations.FetchFaultsComeFirst : Prop :=
  ∀ s : State,
    (s.pc.toNat % s.cfg.pcAlign ≠ 0 → step s = .fault (.fetchMisaligned s.pc)) ∧
    (s.pc.toNat % s.cfg.pcAlign = 0 → ∀ k < 4,
      (∀ j < k, s.mem.read (addrAt s.cfg.xlen s.pc j) ≠ none) →
      s.mem.read (addrAt s.cfg.xlen s.pc k) = none →
      step s = .fault (.fetchAbsent (addrAt s.cfg.xlen s.pc k)))

/-- The reserved encodings of R86 raise IllegalInstruction: `aes64ks1i` with a round number above 0xA on
RV64, `rori` with bit 25 set on RV32 (D5 for the second: log entry 21). -/
def Obligations.ReservedWordsTrap : Prop :=
  ∀ (s : State) (w : Word32), fetch s = .ok w →
    (s.cfg.xlen = .rv64 → w &&& 0xFF00707F = 0x31001013 → 0xA < (w >>> 20) &&& 0xF →
      step s = .fault (.trap ⟨.illegalInstruction, s.pc, w⟩)) ∧
    (s.cfg.xlen = .rv32 → w &&& 0xFE00707F = 0x62005013 →
      step s = .fault (.trap ⟨.illegalInstruction, s.pc, w⟩))

/-- Executing an instruction never ends in a refusal, and a fault is one of the two exceptions of R250
with the address and the word of the instruction (R256, R260; D6, D26: log entry 13). -/
def Obligations.ExecOnlyTraps : Prop :=
  ∀ (i : Instr) (s : State),
    (∃ t, exec i s = .next t) ∨ traps i s .illegalInstruction ∨ traps i s .virtualInstruction

/-- R252: VirtualInstruction is raised exactly by a read-write access to `seed` from VS or VU with
`sseed` 1. A read-only form there is IllegalInstruction, and the exception needs the hypervisor extension
in every state the invariant allows. -/
def Obligations.VirtualInstructionExactly : Prop :=
  (∀ (i : Instr) (s : State), traps i s .virtualInstruction ↔
    ∃ f : CsrForm, i = f.instr ∧ f.csr = 0x015 ∧ s.cfg.ext.zkr = true ∧ f.isWrite = true ∧
      (s.inMode .vs ∨ s.inMode .vu) ∧ s.sseed = true) ∧
  (∀ (f : CsrForm) (s : State), f.csr = 0x015 → f.isWrite = false →
    (s.inMode .vs ∨ s.inMode .vu) → traps f.instr s .illegalInstruction) ∧
  (∀ (i : Instr) (s : State), s.Inv → traps i s .virtualInstruction → s.cfg.hasH = true)

/-- The causes of IllegalInstruction at execution (R251): an instruction that does not exist here or holds
a reserved operand (I1, I5, I7), a read-only form on `seed` (I2), a `seed` access without the grant (I3,
I4), a machine CSR outside M mode (I8). I5 and I6 as words are `StepTrapsOnOtherWords`. D5, D19 and D24
are the spec's decisions (log entries 15, 19, 21). -/
def Obligations.IllegalInstructionExactly : Prop :=
  ∀ (i : Instr) (s : State), traps i s .illegalInstruction ↔
    i.wellFormed s.cfg = false ∨
    ∃ f : CsrForm, i = f.instr ∧
      ((s.cfg.csrAt f.csr = some .seed ∧ f.isWrite = false) ∨
       (s.cfg.csrAt f.csr = some .seed ∧ s.priv = .s ∧ s.sseed = false) ∨
       (s.cfg.csrAt f.csr = some .seed ∧ s.priv = .u ∧ s.virt = false ∧ s.useed = false) ∨
       (s.cfg.csrAt f.csr = some .seed ∧ s.priv = .u ∧ s.virt = true ∧ s.sseed = false) ∨
       (s.cfg.csrAt f.csr ≠ some .seed ∧ s.cfg.csrAt f.csr ≠ none ∧ s.priv ≠ .m))

/-! ## Zbkb, Zbkc, Zbkx: results and frames -/

/-- `andn`, `orn`, `xnor` on both widths, bit by bit (R101 to R103). -/
def Obligations.AndnOrnXnorResults : Prop :=
  ∀ (rd rs1 rs2 : Reg) (s : State), s.cfg.ext.zbkb = true →
    completes (.andn rd rs1 rs2) s (fun v => hasBits s.cfg.xlen.bits v fun k =>
      (s.readX rs1).getLsbD k && !(s.readX rs2).getLsbD k) ∧
    completes (.orn rd rs1 rs2) s (fun v => hasBits s.cfg.xlen.bits v fun k =>
      (s.readX rs1).getLsbD k || !(s.readX rs2).getLsbD k) ∧
    completes (.xnor rd rs1 rs2) s (fun v => hasBits s.cfg.xlen.bits v fun k =>
      (s.readX rs1).getLsbD k == (s.readX rs2).getLsbD k)

/-- `rol`, `ror` and the two `rori`, bit by bit: the amount is the low log2(XLEN) bits (R104, R106, R107). -/
def Obligations.RotateResults : Prop :=
  ∀ (rd rs1 rs2 : Reg) (s : State), s.cfg.ext.zbkb = true →
    completes (.rol rd rs1 rs2) s (fun v => hasBits s.cfg.xlen.bits v fun k =>
      (s.readX rs1).getLsbD
        ((k + s.cfg.xlen.bits - (s.readX rs2).toNat % s.cfg.xlen.bits) % s.cfg.xlen.bits)) ∧
    completes (.ror rd rs1 rs2) s (fun v => hasBits s.cfg.xlen.bits v fun k =>
      (s.readX rs1).getLsbD ((k + (s.readX rs2).toNat % s.cfg.xlen.bits) % s.cfg.xlen.bits)) ∧
    (s.cfg.xlen = .rv32 → ∀ n : BitVec 5, completes (.roriRv32 rd rs1 n) s (fun v => hasBits 32 v fun k =>
      (s.readX rs1).getLsbD ((k + n.toNat) % 32))) ∧
    (s.cfg.xlen = .rv64 → ∀ n : BitVec 6, completes (.roriRv64 rd rs1 n) s (fun v => hasBits 64 v fun k =>
      (s.readX rs1).getLsbD ((k + n.toNat) % 64)))

/-- `rolw`, `rorw`, `roriw` on RV64: the low word rotated by 5 bits of amount, then sign-extended (R105,
R108, R109). That `rorw` truncates before it extends is conflict C7's resolution, that `roriw` has a
five-bit amount is C8's (DEDUCED: log entry 24). -/
def Obligations.RotateWordResults : Prop :=
  ∀ (rd rs1 rs2 : Reg) (n : BitVec 5) (s : State), s.cfg.ext.zbkb = true → s.cfg.xlen = .rv64 →
    completes (.rolw rd rs1 rs2) s (fun v => hasWordBits .rv64 v fun k =>
      (s.readX rs1).getLsbD ((k + 32 - (s.readX rs2).toNat % 32) % 32)) ∧
    completes (.rorw rd rs1 rs2) s (fun v => hasWordBits .rv64 v fun k =>
      (s.readX rs1).getLsbD ((k + (s.readX rs2).toNat % 32) % 32)) ∧
    completes (.roriw rd rs1 n) s (fun v => hasWordBits .rv64 v fun k =>
      (s.readX rs1).getLsbD ((k + n.toNat) % 32))

/-- `pack`, `packh` on both widths and `packw` on RV64, bit by bit (R110 to R112). -/
def Obligations.PackResults : Prop :=
  ∀ (rd rs1 rs2 : Reg) (s : State), s.cfg.ext.zbkb = true →
    completes (.pack rd rs1 rs2) s (fun v => hasBits s.cfg.xlen.bits v fun k =>
      if k < s.cfg.xlen.bits / 2 then (s.readX rs1).getLsbD k
      else (s.readX rs2).getLsbD (k - s.cfg.xlen.bits / 2)) ∧
    completes (.packh rd rs1 rs2) s (fun v => hasBits 16 v fun k =>
      if k < 8 then (s.readX rs1).getLsbD k else (s.readX rs2).getLsbD (k - 8)) ∧
    (s.cfg.xlen = .rv64 → completes (.packw rd rs1 rs2) s (fun v => hasWordBits .rv64 v fun k =>
      if k < 16 then (s.readX rs1).getLsbD k else (s.readX rs2).getLsbD (k - 16)))

/-- `brev8` on both widths and `rev8` on each, bit by bit (R113, R114). -/
def Obligations.ByteReversalResults : Prop :=
  ∀ (rd rs1 : Reg) (s : State), s.cfg.ext.zbkb = true →
    completes (.brev8 rd rs1) s (fun v => hasBits s.cfg.xlen.bits v fun k =>
      (s.readX rs1).getLsbD (8 * (k / 8) + 7 - k % 8)) ∧
    (s.cfg.xlen = .rv32 → completes (.rev8Rv32 rd rs1) s (fun v => hasBits 32 v fun k =>
      (s.readX rs1).getLsbD (8 * (3 - k / 8) + k % 8))) ∧
    (s.cfg.xlen = .rv64 → completes (.rev8Rv64 rd rs1) s (fun v => hasBits 64 v fun k =>
      (s.readX rs1).getLsbD (8 * (7 - k / 8) + k % 8)))

/-- `zip` and `unzip` on RV32, bit by bit (R115, R116; the direction is conflict C15's resolution: log
entry 23). -/
def Obligations.ZipUnzipResults : Prop :=
  ∀ (rd rs1 : Reg) (s : State), s.cfg.ext.zbkb = true → s.cfg.xlen = .rv32 →
    completes (.zip rd rs1) s (fun v => hasBits 32 v fun k =>
      (s.readX rs1).getLsbD (k / 2 + 16 * (k % 2))) ∧
    completes (.unzip rd rs1) s (fun v => hasBits 32 v fun k =>
      (s.readX rs1).getLsbD (2 * (k % 16) + k / 16))

/-- `clmul` and `clmulh` give the low and the high half of the carry-less product (R131 to R133). -/
def Obligations.ClmulResults : Prop :=
  ∀ (rd rs1 rs2 : Reg) (s : State), s.cfg.ext.zbkc = true →
    completes (.clmul rd rs1 rs2) s (fun v => hasBits s.cfg.xlen.bits v fun k =>
      productBit (s.readX rs1) (s.readX rs2) k) ∧
    completes (.clmulh rd rs1 rs2) s (fun v => hasBits s.cfg.xlen.bits v fun k =>
      productBit (s.readX rs1) (s.readX rs2) (k + s.cfg.xlen.bits))

/-- `xperm8` and `xperm4`: each element of `rs2` replaced by the element of `rs1` it names, 0 when there is
none (R134, R135). -/
def Obligations.XpermResults : Prop :=
  ∀ (rd rs1 rs2 : Reg) (s : State), s.cfg.ext.zbkx = true →
    completes (.xperm8 rd rs1 rs2) s (fun v => hasBits s.cfg.xlen.bits v fun k =>
      decide ((s.readX rs2).toNat / 2 ^ (8 * (k / 8)) % 256 < s.cfg.xlen.bits / 8) &&
        (s.readX rs1).getLsbD (8 * ((s.readX rs2).toNat / 2 ^ (8 * (k / 8)) % 256) + k % 8)) ∧
    completes (.xperm4 rd rs1 rs2) s (fun v => hasBits s.cfg.xlen.bits v fun k =>
      decide ((s.readX rs2).toNat / 2 ^ (4 * (k / 4)) % 16 < s.cfg.xlen.bits / 4) &&
        (s.readX rs1).getLsbD (4 * ((s.readX rs2).toNat / 2 ^ (4 * (k / 4)) % 16) + k % 4))

/-- The identities of R117 on the values of the Zbkb instructions, at both widths where it states them so,
and the sign extension of the four `w` instructions. -/
def Obligations.ZbkbIdentities : Prop :=
  (∀ (v : XWord) (n : Nat), 0 < n → n < 64 → rolV v n = rorV v (64 - n)) ∧
  (∀ (v : Word32) (n : Nat), 0 < n → n < 32 → rolV v n = rorV v (32 - n)) ∧
  (∀ v : XWord, rolV v 0 = v ∧ rorV v 0 = v) ∧ (∀ v : Word32, rolV v 0 = v ∧ rorV v 0 = v) ∧
  (∀ v : XWord, brev8V (brev8V v) = v ∧ rev8V (rev8V v) = v ∧ brev8V (rev8V v) = v.reverse ∧
    rev8V (brev8V v) = v.reverse) ∧
  (∀ v : Word32, brev8V (brev8V v) = v ∧ rev8V (rev8V v) = v ∧ brev8V (rev8V v) = v.reverse ∧
    rev8V (brev8V v) = v.reverse ∧ unzipV (zipV v) = v ∧ zipV (unzipV v) = v) ∧
  (∀ a b : XWord, andnV a b = a &&& xnorV b 0) ∧ (∀ a b : Word32, andnV a b = a &&& xnorV b 0) ∧
  (∀ v : XWord, packV 32 v 0 = (v.setWidth 32).setWidth 64) ∧
  (∀ v : Word32, packV 16 v 0 = (v.setWidth 16).setWidth 32) ∧
  (∀ (rd rs1 rs2 : Reg) (n : BitVec 5) (s : State), s.cfg.ext.zbkb = true → s.cfg.xlen = .rv64 →
    ∀ i ∈ [Instr.rolw rd rs1 rs2, .rorw rd rs1 rs2, .roriw rd rs1 n, .packw rd rs1 rs2],
      completes i s fun v => ∀ k, 32 ≤ k → k < 64 → v.getLsbD k = v.getLsbD 31)

/-! ## AES -/

/-- The four RV32 round steps, byte by byte: the selected byte of `rs2` through the S-box, times the column
of the MixColumns matrix in the middle rounds, is added to `rs1` (R149 to R153). -/
def Obligations.Aes32Results : Prop :=
  ∀ (rd rs1 rs2 : Reg) (bs : BitVec 2) (s : State), s.cfg.xlen = .rv32 →
    (s.cfg.ext.zkne = true →
      completes (.aes32esi rd rs1 rs2 bs) s (fun v => hasBytes 4 v fun j =>
        (s.readX rs1).extractLsb' (8 * j) 8 ^^^
          (if j = bs.toNat then aesSboxFwd ((s.readX rs2).extractLsb' (8 * bs.toNat) 8) else 0)) ∧
      completes (.aes32esmi rd rs1 rs2 bs) s (fun v => hasBytes 4 v fun j =>
        (s.readX rs1).extractLsb' (8 * j) 8 ^^^
          gfmul (aesSboxFwd ((s.readX rs2).extractLsb' (8 * bs.toNat) 8)) (mixRow (bs.toNat + 4 - j)))) ∧
    (s.cfg.ext.zknd = true →
      completes (.aes32dsi rd rs1 rs2 bs) s (fun v => hasBytes 4 v fun j =>
        (s.readX rs1).extractLsb' (8 * j) 8 ^^^
          (if j = bs.toNat then aesSboxInv ((s.readX rs2).extractLsb' (8 * bs.toNat) 8) else 0)) ∧
      completes (.aes32dsmi rd rs1 rs2 bs) s (fun v => hasBytes 4 v fun j =>
        (s.readX rs1).extractLsb' (8 * j) 8 ^^^
          gfmul (aesSboxInv ((s.readX rs2).extractLsb' (8 * bs.toNat) 8)) (invMixRow (bs.toNat + 4 - j))))

/-- `aes64es` and `aes64ds`, byte by byte: half of the state after ShiftRows and SubBytes, in the
published row and column numbering (R146, R154, R156). -/
def Obligations.Aes64FinalRoundResults : Prop :=
  ∀ (rd rs1 rs2 : Reg) (s : State), s.cfg.xlen = .rv64 →
    (s.cfg.ext.zkne = true →
      completes (.aes64es rd rs1 rs2) s (fun v => hasBytes 8 v fun j =>
        aesSboxFwd (stateByte (s.readX rs1) (s.readX rs2) (shiftRowsFrom j)))) ∧
    (s.cfg.ext.zknd = true →
      completes (.aes64ds rd rs1 rs2) s (fun v => hasBytes 8 v fun j =>
        aesSboxInv (stateByte (s.readX rs1) (s.readX rs2) (invShiftRowsFrom j))))

/-- `aes64esm`, `aes64dsm` and `aes64im`, byte by byte: the same bytes times the (inverse) MixColumns
matrix (R145, R155, R157, R158). -/
def Obligations.Aes64MixResults : Prop :=
  ∀ (rd rs1 rs2 : Reg) (s : State), s.cfg.xlen = .rv64 →
    (s.cfg.ext.zkne = true →
      completes (.aes64esm rd rs1 rs2) s (fun v => hasBytes 8 v fun j =>
        mixByte mixRow (fun r => aesSboxFwd (stateByte (s.readX rs1) (s.readX rs2)
          (shiftRowsFrom (4 * (j / 4) + r)))) (j % 4))) ∧
    (s.cfg.ext.zknd = true →
      completes (.aes64dsm rd rs1 rs2) s (fun v => hasBytes 8 v fun j =>
        mixByte invMixRow (fun r => aesSboxInv (stateByte (s.readX rs1) (s.readX rs2)
          (invShiftRowsFrom (4 * (j / 4) + r)))) (j % 4)) ∧
      completes (.aes64im rd rs1) s (fun v => hasBytes 8 v fun j =>
        mixByte invMixRow (fun r => (s.readX rs1).extractLsb' (8 * (4 * (j / 4) + r)) 8) (j % 4)))

/-- `aes64ks1i` for every legal round number and `aes64ks2` (R147, R159, R160; the constant of round 0xA is
conflict C3's resolution: log entry 24). -/
def Obligations.Aes64KeyScheduleResults : Prop :=
  ∀ (rd rs1 rs2 : Reg) (n : BitVec 4) (s : State), s.cfg.xlen = .rv64 →
    (s.cfg.ext.zkne = true ∨ s.cfg.ext.zknd = true) →
    (n.toNat ≤ 10 → completes (.aes64ks1i rd rs1 n) s (fun v => hasBytes 8 v fun j =>
      aesSboxFwd ((s.readX rs1).extractLsb' (32 + 8 * ((j + if n.toNat = 10 then 0 else 1) % 4)) 8) ^^^
        (if j % 4 = 0 ∧ n.toNat < 8 then 1 <<< n.toNat
         else if j % 4 = 0 ∧ n.toNat = 8 then 0x1B
         else if j % 4 = 0 ∧ n.toNat = 9 then 0x36 else 0))) ∧
    completes (.aes64ks2 rd rs1 rs2) s (fun v => hasBytes 8 v fun j =>
      (s.readX rs1).extractLsb' (32 + 8 * (j % 4)) 8 ^^^ (s.readX rs2).extractLsb' (8 * (j % 4)) 8 ^^^
        (if j < 4 then 0 else (s.readX rs2).extractLsb' (8 * j) 8))

/-- The `aes64ds` pair undoes the `aes64es` pair (R142, R146, R161; program P2). -/
def Obligations.AesDecryptUndoesEncrypt : Prop :=
  ∀ a b : XWord,
    aes64dsV (aes64esV a b) (aes64esV b a) = a ∧ aes64dsV (aes64esV b a) (aes64esV a b) = b

/-- `aes_mixcolumn_fwd` and `aes_mixcolumn_inv` are mutually inverse (R145), so `aes64im` undoes the
MixColumns of `aes64esm`. -/
def Obligations.MixColumnsInverse : Prop :=
  (∀ x : Word32, aesMixcolumnInv (aesMixcolumnFwd x) = x) ∧
  (∀ x : Word32, aesMixcolumnFwd (aesMixcolumnInv x) = x) ∧
  (∀ a b : XWord, aesMixcolumnInv64 (aes64esmV a b) = aes64esV a b)

/-- Four `aes32esmi` steps give one column of what `aes64esm` gives (R163). -/
def Obligations.Aes32StepsMakeAes64Column : Prop :=
  ∀ k c0 c1 c2 c3 : Word32,
    aes32Step aes32esmiF 3 (aes32Step aes32esmiF 2 (aes32Step aes32esmiF 1
      (aes32Step aes32esmiF 0 k c0) c1) c2) c3 =
    k ^^^ (aes64esmV (c1 ++ c0) (c3 ++ c2)).setWidth 32

/-! ## SHA-2, SM4, SM3 -/

/-- The SHA-256 functions on both widths, bit by bit, sign-extended on RV64 (R171 to R174). -/
def Obligations.Sha256Results : Prop :=
  ∀ (rd rs1 : Reg) (s : State), s.cfg.ext.zknh = true →
    completes (.sha256sig0 rd rs1) s (fun v => hasWordBits s.cfg.xlen v fun k =>
      (s.readX rs1).getLsbD ((k + 7) % 32) ^^ (s.readX rs1).getLsbD ((k + 18) % 32) ^^
        (decide (k + 3 < 32) && (s.readX rs1).getLsbD (k + 3))) ∧
    completes (.sha256sig1 rd rs1) s (fun v => hasWordBits s.cfg.xlen v fun k =>
      (s.readX rs1).getLsbD ((k + 17) % 32) ^^ (s.readX rs1).getLsbD ((k + 19) % 32) ^^
        (decide (k + 10 < 32) && (s.readX rs1).getLsbD (k + 10))) ∧
    completes (.sha256sum0 rd rs1) s (fun v => hasWordBits s.cfg.xlen v fun k =>
      (s.readX rs1).getLsbD ((k + 2) % 32) ^^ (s.readX rs1).getLsbD ((k + 13) % 32) ^^
        (s.readX rs1).getLsbD ((k + 22) % 32)) ∧
    completes (.sha256sum1 rd rs1) s (fun v => hasWordBits s.cfg.xlen v fun k =>
      (s.readX rs1).getLsbD ((k + 6) % 32) ^^ (s.readX rs1).getLsbD ((k + 11) % 32) ^^
        (s.readX rs1).getLsbD ((k + 25) % 32))

/-- The SHA-512 functions on RV64, bit by bit (R181 to R184). -/
def Obligations.Sha512Rv64Results : Prop :=
  ∀ (rd rs1 : Reg) (s : State), s.cfg.ext.zknh = true → s.cfg.xlen = .rv64 →
    completes (.sha512sig0 rd rs1) s (fun v => hasBits 64 v fun k =>
      (s.readX rs1).getLsbD ((k + 1) % 64) ^^ (s.readX rs1).getLsbD ((k + 8) % 64) ^^
        (s.readX rs1).getLsbD (k + 7)) ∧
    completes (.sha512sig1 rd rs1) s (fun v => hasBits 64 v fun k =>
      (s.readX rs1).getLsbD ((k + 19) % 64) ^^ (s.readX rs1).getLsbD ((k + 61) % 64) ^^
        (s.readX rs1).getLsbD (k + 6)) ∧
    completes (.sha512sum0 rd rs1) s (fun v => hasBits 64 v fun k =>
      (s.readX rs1).getLsbD ((k + 28) % 64) ^^ (s.readX rs1).getLsbD ((k + 34) % 64) ^^
        (s.readX rs1).getLsbD ((k + 39) % 64)) ∧
    completes (.sha512sum1 rd rs1) s (fun v => hasBits 64 v fun k =>
      (s.readX rs1).getLsbD ((k + 14) % 64) ^^ (s.readX rs1).getLsbD ((k + 18) % 64) ^^
        (s.readX rs1).getLsbD ((k + 41) % 64))

/-- The six SHA-512 instructions of RV32 give the halves of the 64-bit functions (R175 to R180, R185): the
`l` forms and one order of the `r` forms the low half of the function of `rs2 || rs1`, the `h` forms and
the other order the high half of the function of `rs1 || rs2`. -/
def Obligations.Sha512Rv32Results : Prop :=
  ∀ (rd rs1 rs2 : Reg) (s : State), s.cfg.ext.zknh = true → s.cfg.xlen = .rv32 →
    completes (.sha512sig0l rd rs1 rs2) s (fun v =>
      v = zextX (loWord (sha512sig0V (s.readW rs2 ++ s.readW rs1)))) ∧
    completes (.sha512sig0h rd rs1 rs2) s (fun v =>
      v = zextX (hiWord (sha512sig0V (s.readW rs1 ++ s.readW rs2)))) ∧
    completes (.sha512sig1l rd rs1 rs2) s (fun v =>
      v = zextX (loWord (sha512sig1V (s.readW rs2 ++ s.readW rs1)))) ∧
    completes (.sha512sig1h rd rs1 rs2) s (fun v =>
      v = zextX (hiWord (sha512sig1V (s.readW rs1 ++ s.readW rs2)))) ∧
    completes (.sha512sum0r rd rs1 rs2) s (fun v =>
      v = zextX (loWord (sha512sum0V (s.readW rs2 ++ s.readW rs1))) ∧
      v = zextX (hiWord (sha512sum0V (s.readW rs1 ++ s.readW rs2)))) ∧
    completes (.sha512sum1r rd rs1 rs2) s (fun v =>
      v = zextX (loWord (sha512sum1V (s.readW rs2 ++ s.readW rs1))) ∧
      v = zextX (hiWord (sha512sum1V (s.readW rs1 ++ s.readW rs2))))

/-- `sm4ed` and `sm4ks` on both widths: the bits of `y` as R192 and R193 list them, rotated by `8 * bs`,
added to `rs1`, sign-extended. -/
def Obligations.Sm4Results : Prop :=
  ∀ (rd rs1 rs2 : Reg) (bs : BitVec 2) (s : State), s.cfg.ext.zksed = true →
    completes (.sm4ed rd rs1 rs2 bs) s (fun v => ∀ b : Byte,
      b = sm4Sbox ((s.readX rs2).extractLsb' (8 * bs.toNat) 8) →
      v = sextX s.cfg.xlen (s.readW rs1 ^^^
        (b.extractLsb' 0 6 ++ b ++ b.extractLsb' 6 2 ++ b.extractLsb' 2 6 ++
          (b.extractLsb' 0 2 ^^^ b.extractLsb' 6 2) ++
          (b.extractLsb' 2 6 ^^^ b.extractLsb' 0 6) ++ b.extractLsb' 0 2 : BitVec 32).rotateLeft
            (8 * bs.toNat))) ∧
    completes (.sm4ks rd rs1 rs2 bs) s (fun v => ∀ b : Byte,
      b = sm4Sbox ((s.readX rs2).extractLsb' (8 * bs.toNat) 8) →
      v = sextX s.cfg.xlen (s.readW rs1 ^^^
        (b.extractLsb' 0 3 ++ (0 : BitVec 5) ++ b.extractLsb' 0 1 ++ (0 : BitVec 2) ++
          b.extractLsb' 3 5 ++ (0 : BitVec 1) ++ b.extractLsb' 1 7 ++ b : BitVec 32).rotateLeft
            (8 * bs.toNat)))

/-- `sm3p0` and `sm3p1` on both widths, bit by bit, sign-extended on RV64 (R195, R196). -/
def Obligations.Sm3Results : Prop :=
  ∀ (rd rs1 : Reg) (s : State), s.cfg.ext.zksh = true →
    completes (.sm3p0 rd rs1) s (fun v => hasWordBits s.cfg.xlen v fun k =>
      (s.readX rs1).getLsbD k ^^ (s.readX rs1).getLsbD ((k + 23) % 32) ^^
        (s.readX rs1).getLsbD ((k + 15) % 32)) ∧
    completes (.sm3p1 rd rs1) s (fun v => hasWordBits s.cfg.xlen v fun k =>
      (s.readX rs1).getLsbD k ^^ (s.readX rs1).getLsbD ((k + 17) % 32) ^^
        (s.readX rs1).getLsbD ((k + 9) % 32))

/-! ## Zkr: polling `seed` -/

/-- A granted read-write access to `seed` completes in each of the six forms. With `rd` not `x0` the word in
`rd` is one a poll may return: 32 bits, a status allowed by R206, R212 and R234, entropy 0 unless ES16
(R208), the 14 other bits 0 under SEED_AUX_ZERO (R209); the source is dead afterwards if it was or if the
status is DEAD; nothing else changes but `pc` and the model's count of draws. It holds whatever the free
values are (log entry 8). -/
def Obligations.SeedPollResult : Prop :=
  ∀ (f : CsrForm) (s : State), f.csr = 0x015 → f.isWrite = true → s.cfg.ext.zkr = true → s.granted →
    f.rd ≠ 0 →
    ∃ (t : State) (w : Word32), exec f.instr s = .next t ∧ t.readX f.rd = w.setWidth 64 ∧
      (s.es.dead = true → seedOpst w = 0b11) ∧
      (s.es.dead = false → s.es.noiseTest = true → seedOpst w = 0b00 ∨ seedOpst w = 0b11) ∧
      (s.es.dead = false → s.es.noiseTest = false → ∀ k hasWait hasBist,
        s.cfg.esKind = .virtualDrbg k hasWait hasBist →
        (hasWait = false → seedOpst w ≠ 0b01) ∧ (hasBist = false → seedOpst w ≠ 0b00)) ∧
      (seedOpst w ≠ 0b10 → seedEntropy w = 0) ∧
      (s.cfg.seedAuxZero = true → seedReserved w = 0 ∧ seedCustom w = 0) ∧
      t.es = { s.es with dead := s.es.dead || (seedOpst w == 0b11) } ∧
      t.pc.toNat = (s.pc.toNat + 4) % 2 ^ s.cfg.xlen.bits ∧ onlyRegister f.rd s t ∧
      t.cfg = s.cfg ∧ t.priv = s.priv ∧ t.virt = s.virt ∧ t.sseed = s.sseed ∧ t.useed = s.useed ∧
      t.mem = s.mem

/-- A granted read-write access to `seed` with `rd = x0` completes, writes no register, and either polls
or does not: the source is as before or has turned dead (R220, D13: log entry 10). -/
def Obligations.SeedToX0 : Prop :=
  ∀ (f : CsrForm) (s : State), f.csr = 0x015 → f.isWrite = true → s.cfg.ext.zkr = true → s.granted →
    f.rd = 0 →
    ∃ t : State, exec f.instr s = .next t ∧ (∀ r, t.readX r = s.readX r) ∧
      (t.es = s.es ∨ t.es = { s.es with dead := true }) ∧
      t.pc.toNat = (s.pc.toNat + 4) % 2 ^ s.cfg.xlen.bits ∧
      t.cfg = s.cfg ∧ t.priv = s.priv ∧ t.virt = s.virt ∧ t.sseed = s.sseed ∧ t.useed = s.useed ∧
      t.mem = s.mem

/-- The model excludes no poll the spec allows. The set of R206 is written out here, with R212 for a virtual
source (its two flags are log entry 9): a dead source gives DEAD, a source in its noise test BIST or DEAD,
a physical one any status, a virtual one ES16, DEAD and what it implements of WAIT and BIST. For each such
status, every entropy (R207) and every value of the reserved and custom bits (R209) there is an answer of
the environment that gives the word (R208 on failure). -/
def Obligations.EveryAllowedPollHappens : Prop :=
  ∀ (c : Config) (es : EntropySource) (o : Opst) (aux : BitVec 14) (entropy : BitVec 16),
    ((es.dead = true ∧ o = .dead) ∨
     (es.dead = false ∧ es.noiseTest = true ∧ (o = .bist ∨ o = .dead)) ∨
     (es.dead = false ∧ es.noiseTest = false ∧ ∃ standard, c.esKind = .physical standard) ∨
     (es.dead = false ∧ es.noiseTest = false ∧ ∃ k hasWait hasBist,
       c.esKind = .virtualDrbg k hasWait hasBist ∧
       (o = .es16 ∨ o = .dead ∨ (o = .wait ∧ hasWait = true) ∨ (o = .bist ∧ hasBist = true)))) →
    ∃ d : Draw, pollWord c es d =
      o.code ++ (if c.seedAuxZero then 0 else aux) ++ (if o = .es16 then entropy else 0)

/-- R208: a word whose status is not ES16 has entropy 0, for every answer of the environment, so no poll
returns 0xFFFFFFFF. -/
def Obligations.EntropyOnFailureIsZero : Prop :=
  ∀ (c : Config) (es : EntropySource) (d : Draw),
    (seedOpst (pollWord c es d) ≠ 0b10 → seedEntropy (pollWord c es d) = 0) ∧
    pollWord c es d ≠ 0xFFFFFFFF

/-- The access-control table of R214, cell by cell: in each mode, with each value of the access bits (bits
9 and 8 of `mseccfg`), a read-write form and a read-only form. `poll` is what a permitted access does. -/
def Obligations.SeedAccessTable : Prop :=
  ∀ (f : CsrForm) (s : State), f.csr = 0x015 → s.cfg.ext.zkr = true →
    s.mseccfg.getLsbD 9 = s.sseed ∧ s.mseccfg.getLsbD 8 = s.useed ∧
    (f.isWrite = false → traps f.instr s .illegalInstruction) ∧
    (f.isWrite = true →
      (s.inMode .m → exec f.instr s = .next (s.poll f.rd (Config.draw s.draws))) ∧
      (s.inMode .s → s.sseed = false → traps f.instr s .illegalInstruction) ∧
      (s.inMode .s → s.sseed = true → exec f.instr s = .next (s.poll f.rd (Config.draw s.draws))) ∧
      (s.inMode .u → s.useed = false → traps f.instr s .illegalInstruction) ∧
      (s.inMode .u → s.useed = true → exec f.instr s = .next (s.poll f.rd (Config.draw s.draws))) ∧
      (s.inMode .vs → s.sseed = false → traps f.instr s .illegalInstruction) ∧
      (s.inMode .vs → s.sseed = true → traps f.instr s .virtualInstruction) ∧
      (s.inMode .vu → s.sseed = false → traps f.instr s .illegalInstruction) ∧
      (s.inMode .vu → s.sseed = true → traps f.instr s .virtualInstruction))

/-- R204: a permitted access to `seed` does not depend on the value in the source register, on the
immediate, or on which of the six forms is used: two read-write forms with one destination, in states that
differ in register contents only, leave the same entropy source and the same value in the destination. -/
def Obligations.WrittenValueIgnored : Prop :=
  ∀ (f g : CsrForm) (s s' t : State), f.csr = 0x015 → f.alike g → f.isWrite = true → g.isWrite = true →
    sameButRegs s s' → exec f.instr s = .next t →
    ∃ t', exec g.instr s' = .next t' ∧ t'.readX f.rd = t.readX f.rd ∧ t'.es = t.es ∧
      t'.draws = t.draws ∧ t'.pc = t.pc

/-- Without Zkr every CSR instruction at the address of `seed` raises IllegalInstruction, in every mode
(R221, D24: log entry 19). -/
def Obligations.SeedWithoutZkrTraps : Prop :=
  ∀ (f : CsrForm) (s : State), f.csr = 0x015 → s.cfg.ext.zkr = false →
    traps f.instr s .illegalInstruction

/-! ## The machine CSRs -/

/-- Each of the six forms on `mseccfg` in M mode completes: the old value goes to `rd` (`sseed` in bit 9,
`useed` in bit 8, 0 elsewhere), a write form replaces, sets or clears the two bits, and a bit that is not
writable becomes 0 (R216, R217; address and access are D19: log entry 15). -/
def Obligations.MseccfgResults : Prop :=
  ∀ (f : CsrForm) (s : State), f.csr = s.cfg.mseccfgAddr → s.cfg.mseccfgAddr ≠ 0x015 →
    (s.cfg.ext.zkr = true ∨ s.cfg.mseccfgOther = true) → s.priv = .m →
    ∃ t : State, exec f.instr s = .next t ∧
      (f.rd ≠ 0 → hasBits 64 (t.readX f.rd) fun k =>
        if k = 9 then s.sseed else if k = 8 then s.useed else false) ∧
      (f.isWrite = false → t.sseed = s.sseed ∧ t.useed = s.useed) ∧
      (f.isWrite = true →
        t.sseed = ((s.cfg.sseedWritable && s.cfg.hasS && s.cfg.ext.zkr) &&
          match f.op with
          | .rw => (f.source s).getLsbD 9
          | .rs => s.sseed || (f.source s).getLsbD 9
          | .rc => s.sseed && !(f.source s).getLsbD 9) ∧
        t.useed = ((s.cfg.useedWritable && s.cfg.hasU && s.cfg.ext.zkr) &&
          match f.op with
          | .rw => (f.source s).getLsbD 8
          | .rs => s.useed || (f.source s).getLsbD 8
          | .rc => s.useed && !(f.source s).getLsbD 8)) ∧
      t.pc.toNat = (s.pc.toNat + 4) % 2 ^ s.cfg.xlen.bits ∧ onlyRegister f.rd s t ∧
      t.cfg = s.cfg ∧ t.priv = s.priv ∧ t.virt = s.virt ∧ t.es = s.es ∧ t.mem = s.mem ∧
      t.draws = s.draws

/-- The discovery procedure of R216: after M mode writes 1 to both bits, reading `mseccfg` back shows
exactly the bits that can be enabled, and the next instruction in S or U mode is granted accordingly
(R287, R290). The address of `mseccfg` is D19 (log entry 15). -/
def Obligations.MseccfgDiscovery : Prop :=
  ∀ (rs1 rd : Reg) (s t : State), s.cfg.mseccfgAddr ≠ 0x015 → s.priv = .m →
    (s.cfg.ext.zkr = true ∨ s.cfg.mseccfgOther = true) → rd ≠ 0 → s.readX rs1 = 0x300 →
    exec (.csrrw 0 s.cfg.mseccfgAddr rs1) s = .next t →
    ∃ u : State, exec (.csrrs rd s.cfg.mseccfgAddr 0) t = .next u ∧
      (u.readX rd).getLsbD 9 = s.cfg.sseedIsWritable ∧
      (u.readX rd).getLsbD 8 = s.cfg.useedIsWritable ∧
      u.sseed = s.cfg.sseedIsWritable ∧ u.useed = s.cfg.useedIsWritable

/-- Each of the six forms on `mseccfgh` in M mode on RV32 completes, reads 0 and changes nothing but `rd`
and `pc` (R217, D19: log entry 15). -/
def Obligations.MseccfghResults : Prop :=
  ∀ (f : CsrForm) (s : State), f.csr = s.cfg.mseccfghAddr → s.cfg.xlen = .rv32 →
    s.cfg.mseccfghAddr ≠ 0x015 → s.cfg.mseccfghAddr ≠ s.cfg.mseccfgAddr →
    (s.cfg.ext.zkr = true ∨ s.cfg.mseccfgOther = true) → s.priv = .m →
    completes f.instr s fun v => v = 0

/-- Each of the six forms on `mnoise`, where it exists, completes in M mode: bit 31 of the value read is
NOISE_TEST and no bit above it is set, bit 31 of the value written becomes NOISE_TEST, the other bits are
free, and no draw is made (R234, R272; log entry 12, which also names the zero extension on RV64). -/
def Obligations.MnoiseResults : Prop :=
  ∀ (f : CsrForm) (s : State), s.cfg.wf = true → s.cfg.mnoise = some f.csr → s.priv = .m →
    ∃ t : State, exec f.instr s = .next t ∧
      (f.rd ≠ 0 → (t.readX f.rd).toNat < 2 ^ 32 ∧ (t.readX f.rd).getLsbD 31 = s.es.noiseTest) ∧
      t.es.dead = s.es.dead ∧
      t.es.noiseTest = (if f.isWrite then
        match f.op with
        | .rw => (f.source s).getLsbD 31
        | .rs => s.es.noiseTest || (f.source s).getLsbD 31
        | .rc => s.es.noiseTest && !(f.source s).getLsbD 31
        else s.es.noiseTest) ∧
      t.pc.toNat = (s.pc.toNat + 4) % 2 ^ s.cfg.xlen.bits ∧ onlyRegister f.rd s t ∧
      t.cfg = s.cfg ∧ t.priv = s.priv ∧ t.virt = s.virt ∧ t.sseed = s.sseed ∧ t.useed = s.useed ∧
      t.mem = s.mem ∧ t.draws = s.draws

/-- Outside M mode every access to `mseccfg`, `mseccfgh` or `mnoise` raises IllegalInstruction (R217, R234,
R251 I8; D19: log entry 15). -/
def Obligations.MachineCsrsTrapOutsideM : Prop :=
  ∀ (f : CsrForm) (s : State), s.priv ≠ .m → f.csr ≠ 0x015 →
    (f.csr = s.cfg.mseccfgAddr ∨ f.csr = s.cfg.mseccfghAddr ∨ s.cfg.mnoise = some f.csr) →
    traps f.instr s .illegalInstruction

/-! ## Every step and every run -/

/-- A step that completes adds 4 to `pc`, modulo 2^XLEN, whatever the instruction (R24, D4: log entry
28). -/
def Obligations.PcAdvancesByFour : Prop :=
  ∀ s t : State, step s = .next t → t.pc.toNat = (s.pc.toNat + 4) % 2 ^ s.cfg.xlen.bits

/-- R6, the 2-read-1-write constraint: an instruction names at most two source registers, its outcome
depends on no other register and on no byte of memory, it writes at most the one register `rd`, and it
leaves memory as it was. -/
def Obligations.TwoReadsOneWrite : Prop :=
  ∀ (i : Instr) (s s' t : State), exec i s = .next t →
    (Instr.sources i).length ≤ 2 ∧ onlyRegister i.rd s t ∧ t.mem = s.mem ∧
    (sameButRegsAndMem s s' → agreeOn (Instr.sources i) s s' →
      ∃ t', exec i s' = .next t' ∧ t'.readX i.rd = t.readX i.rd ∧ onlyRegister i.rd s' t' ∧
        sameButRegsAndMem t t' ∧ t'.mem = s'.mem)

/-- The 49 computational instructions do the same in every mode, whatever the access bits and the entropy
source hold (R265, R286). -/
def Obligations.ComputationIgnoresMode : Prop :=
  ∀ (i : Instr) (s t : State) (p : Priv) (v a b : Bool) (es : EntropySource),
    i.isCsr = false → exec i s = .next t →
    exec i (s.withPrivilege p v a b es) = .next (t.withPrivilege p v a b es)

/-- Zkt in or out of `EXT` changes no outcome (R249). -/
def Obligations.ZktIsNotObservable : Prop :=
  ∀ (i : Instr) (s : State) (b : Bool),
    (∀ t, exec i s = .next t → exec i (s.withZkt b) = .next (t.withZkt b)) ∧
    (∀ r, exec i s = .fault r → exec i (s.withZkt b) = .fault r)

/-- No run changes the configuration, the mode or memory (R26, R50, R262). -/
def Obligations.RunsKeepModeAndMemory : Prop :=
  ∀ (k : Nat) (s t : State), Sys2Proof.core.run k s = .next t →
    t.cfg = s.cfg ∧ t.priv = s.priv ∧ t.virt = s.virt ∧ ∀ a : Nat, t.mem.read a = s.mem.read a

/-- No run outside M mode changes `sseed`, `useed` or NOISE_TEST: a lower mode cannot grant itself the
entropy source (R217, R234, R266; D19: log entry 15). -/
def Obligations.LowerModesCannotGrantAccess : Prop :=
  ∀ (k : Nat) (s t : State), Sys2Proof.core.run k s = .next t → s.priv ≠ .m →
    t.sseed = s.sseed ∧ t.useed = s.useed ∧ t.es.noiseTest = s.es.noiseTest

/-- A run in a mode without the grant leaves the entropy source alone: nothing is polled, no free value is
drawn (R214, R256, R263 (a)). -/
def Obligations.UngrantedRunsLeaveTheSource : Prop :=
  ∀ (k : Nat) (s t : State), Sys2Proof.core.run k s = .next t →
    ((s.inMode .s ∧ s.sseed = false) ∨ (s.inMode .u ∧ s.useed = false) ∨ s.inMode .vs ∨ s.inMode .vu) →
    t.es = s.es ∧ t.draws = s.draws

/-- DEAD is final: in a run that passes through no reset a dead source stays dead, and every poll of it
returns DEAD with entropy 0 (R206, R213; "unrecoverable" read as D25: log entry 7). -/
def Obligations.DeadIsFinal : Prop :=
  ∀ (k : Nat) (s t : State), Sys2Proof.core.run k s = .next t → s.es.dead = true →
    t.es.dead = true ∧
    ∀ d : Draw, seedOpst (pollWord t.cfg t.es d) = 0b11 ∧ seedEntropy (pollWord t.cfg t.es d) = 0

/-! ## Reset and the invariant -/

/-- What reset leaves (R281 to R285): M mode at RESET_PC, the access bits at their reset parameters or 0
when they cannot be written, the source neither dead nor in test, and any register contents. The mode and
the cleared DEAD are D11 and D25 (log entries 5 and 7). -/
def Obligations.ResetLeaves : Prop :=
  ∀ (c : Config) (x : Vector XWord 32) (m : Memory) (n : Nat) (s : State), s = .resetOf c x m n →
    s.cfg = c ∧ s.pc = c.resetPc ∧ s.priv = .m ∧ s.virt = false ∧ s.readX 0 = 0 ∧ s.x = x ∧
    s.mem = m ∧ s.es = ⟨false, false⟩ ∧
    s.sseed = (if c.sseedWritable ∧ c.hasS ∧ c.ext.zkr then c.sseedReset else false) ∧
    s.useed = (if c.useedWritable ∧ c.hasU ∧ c.ext.zkr then c.useedReset else false)

/-- The invariant holds at the reset state of the model. -/
def Obligations.InvAtReset : Prop :=
  State.reset.Inv

/-- The invariant holds after reset of every accepted configuration, with any register contents and any
memory in canonical form (R284, R285). -/
def Obligations.InvAtEveryReset : Prop :=
  ∀ (c : Config) (x : Vector XWord 32) (m : Memory) (n : Nat), c.wf = true → m.wf = true →
    (∀ cell ∈ m, cell.1 < 2 ^ c.xlen.bits) → (∀ r : Fin 32, (x[r]).toNat < 2 ^ c.xlen.bits) →
    (State.resetOf c x m n).Inv

/-- Every step keeps the invariant: an accepted configuration, canonical memory inside the address space,
registers and `pc` XLEN bits wide, an aligned `pc`, a mode that exists, hardwired access bits 0, no noise
test without `mnoise` (R21, R24, R26, R32, R33). -/
def Obligations.StepKeepsInv : Prop :=
  ∀ s t : State, s.Inv → step s = .next t → t.Inv

/-! ## Composition -/

/-- A composed machine does what this one does where an instruction of this spec completes, and hands to
`trap_entry`, with the unchanged state, the traps this spec keeps for itself: that of an instruction, that
of a round number R86 reserves, and that of `seed` without Zkr (R86, R221, R260, R272 (2); log entries
33 and, for hooks that act on this State alone, 37). -/
def Obligations.ComposedStepAgrees : Prop :=
  ∀ (base : BaseStep) (entry : TrapEntry) (s : State),
    (∀ t, step s = .next t → stepComposed base entry s = .next t) ∧
    (∀ w i e, fetch s = .ok w → decodeWord s.cfg w = .instr i → traps i s e →
      stepComposed base entry s =
        .next (entry s (match e with
          | .illegalInstruction => s.cfg.causeIllegal
          | .virtualInstruction => s.cfg.causeVirtual) s.pc w)) ∧
    (∀ w, fetch s = .ok w → s.cfg.xlen = .rv64 → (s.cfg.ext.zkne = true ∨ s.cfg.ext.zknd = true) →
      w &&& 0xFF00707F = 0x31001013 → 0xA < (w >>> 20) &&& 0xF →
      stepComposed base entry s = .next (entry s s.cfg.causeIllegal s.pc w)) ∧
    (∀ f : CsrForm, fetch s = .ok (encode f.instr) → f.csr = 0x015 → s.cfg.ext.zkr = false →
      stepComposed base entry s = .next (entry s s.cfg.causeIllegal s.pc (encode f.instr)))

/-- The words a composed machine hands to its base machine: those no row matches under R85 (R90), the
reserved `rori` of RV32 (D5), and a CSR instruction at an address other than 0x015 that has no CSR here.
What the base machine completes stands, its traps go to `trap_entry` (log entries 33 and, for hooks that
act on this State alone, 37). -/
def Obligations.ComposedHandsOver : Prop :=
  ∀ (base : BaseStep) (entry : TrapEntry) (s : State) (w : Word32), fetch s = .ok w →
    ((∀ r ∈ decodeRows, r.matchesWord w = true → (r.build w).onXlen s.cfg.xlen = true →
        (r.build w).inExt s.cfg.ext = false) ∨
     (s.cfg.xlen = .rv32 ∧ w &&& 0xFE00707F = 0x62005013) ∨
     (∃ f : CsrForm, w = encode f.instr ∧ f.csr ≠ 0x015 ∧ s.cfg.csrAt f.csr = none)) →
    (∀ t, base w s = .next t → stepComposed base entry s = .next t) ∧
    (∀ x : Trap, base w s = .fault (.trap x) →
      stepComposed base entry s = .next (entry s (x.code s.cfg) x.pc x.inst))

/-! ## Draws -/

/-- A draw is made by an access to `seed` and by nothing else: an instruction that completes counts one if
it is a read-write form at 0x015 and none otherwise (R272). -/
def Obligations.DrawsOnlyAtSeed : Prop :=
  ∀ (i : Instr) (s t : State), exec i s = .next t →
    (∃ f : CsrForm, i = f.instr ∧ f.csr = 0x015 ∧ f.isWrite = true ∧ t.draws = s.draws + 1) ∨
    ((∀ f : CsrForm, i = f.instr → f.csr ≠ 0x015) ∧ t.draws = s.draws)
end

