-- ==== Sys2Proof/Laws/State.lean ====
section
/-! SUPPORT. The fields of the state after each update: one lemma per field per update, so that no later
proof unfolds a record update. -/

namespace Sys2Proof.Laws

open Sys2Proof.Machine

/-! ## `writeX` -/

@[simp] theorem writeX_cfg (s : State) (r : Reg) (v : XWord) :
    (s.writeX r v).cfg = s.cfg := rfl

@[simp] theorem writeX_x (s : State) (r : Reg) (v : XWord) :
    (s.writeX r v).x = setReg s.cfg.xlen s.x r v := rfl

@[simp] theorem writeX_pc (s : State) (r : Reg) (v : XWord) :
    (s.writeX r v).pc = s.pc := rfl

@[simp] theorem writeX_priv (s : State) (r : Reg) (v : XWord) :
    (s.writeX r v).priv = s.priv := rfl

@[simp] theorem writeX_virt (s : State) (r : Reg) (v : XWord) :
    (s.writeX r v).virt = s.virt := rfl

@[simp] theorem writeX_sseed (s : State) (r : Reg) (v : XWord) :
    (s.writeX r v).sseed = s.sseed := rfl

@[simp] theorem writeX_useed (s : State) (r : Reg) (v : XWord) :
    (s.writeX r v).useed = s.useed := rfl

@[simp] theorem writeX_es (s : State) (r : Reg) (v : XWord) :
    (s.writeX r v).es = s.es := rfl

@[simp] theorem writeX_mem (s : State) (r : Reg) (v : XWord) :
    (s.writeX r v).mem = s.mem := rfl

@[simp] theorem writeX_draws (s : State) (r : Reg) (v : XWord) :
    (s.writeX r v).draws = s.draws := rfl

/-! ## `retire` -/

@[simp] theorem retire_cfg (s : State) (r : Reg) (v : XWord) :
    (s.retire r v).cfg = s.cfg := rfl

@[simp] theorem retire_x (s : State) (r : Reg) (v : XWord) :
    (s.retire r v).x = setReg s.cfg.xlen s.x r v := rfl

@[simp] theorem retire_pc (s : State) (r : Reg) (v : XWord) :
    (s.retire r v).pc = s.nextPc := rfl

@[simp] theorem retire_priv (s : State) (r : Reg) (v : XWord) :
    (s.retire r v).priv = s.priv := rfl

@[simp] theorem retire_virt (s : State) (r : Reg) (v : XWord) :
    (s.retire r v).virt = s.virt := rfl

@[simp] theorem retire_sseed (s : State) (r : Reg) (v : XWord) :
    (s.retire r v).sseed = s.sseed := rfl

@[simp] theorem retire_useed (s : State) (r : Reg) (v : XWord) :
    (s.retire r v).useed = s.useed := rfl

@[simp] theorem retire_es (s : State) (r : Reg) (v : XWord) :
    (s.retire r v).es = s.es := rfl

@[simp] theorem retire_mem (s : State) (r : Reg) (v : XWord) :
    (s.retire r v).mem = s.mem := rfl

@[simp] theorem retire_draws (s : State) (r : Reg) (v : XWord) :
    (s.retire r v).draws = s.draws := rfl

/-! ## `poll` -/

@[simp] theorem poll_cfg (s : State) (r : Reg) (d : Draw) :
    (s.poll r d).cfg = s.cfg := rfl

@[simp] theorem poll_x (s : State) (r : Reg) (d : Draw) :
    (s.poll r d).x = setReg s.cfg.xlen s.x r (zextX (pollWord s.cfg s.es d)) := rfl

@[simp] theorem poll_pc (s : State) (r : Reg) (d : Draw) :
    (s.poll r d).pc = s.nextPc := rfl

@[simp] theorem poll_priv (s : State) (r : Reg) (d : Draw) :
    (s.poll r d).priv = s.priv := rfl

@[simp] theorem poll_virt (s : State) (r : Reg) (d : Draw) :
    (s.poll r d).virt = s.virt := rfl

@[simp] theorem poll_sseed (s : State) (r : Reg) (d : Draw) :
    (s.poll r d).sseed = s.sseed := rfl

@[simp] theorem poll_useed (s : State) (r : Reg) (d : Draw) :
    (s.poll r d).useed = s.useed := rfl

@[simp] theorem poll_es (s : State) (r : Reg) (d : Draw) :
    (s.poll r d).es = (if r = 0 ∧ d.discardPolls = false then s.es
      else EntropySource.afterPoll s.es (pollStatus s.cfg s.es d)) := rfl

@[simp] theorem poll_mem (s : State) (r : Reg) (d : Draw) :
    (s.poll r d).mem = s.mem := rfl

@[simp] theorem poll_draws (s : State) (r : Reg) (d : Draw) :
    (s.poll r d).draws = s.draws + 1 := rfl

/-! ## `writeMseccfg` -/

@[simp] theorem writeMseccfg_cfg (s : State) (v : XWord) :
    (s.writeMseccfg v).cfg = s.cfg := rfl

@[simp] theorem writeMseccfg_x (s : State) (v : XWord) :
    (s.writeMseccfg v).x = s.x := rfl

@[simp] theorem writeMseccfg_pc (s : State) (v : XWord) :
    (s.writeMseccfg v).pc = s.pc := rfl

@[simp] theorem writeMseccfg_priv (s : State) (v : XWord) :
    (s.writeMseccfg v).priv = s.priv := rfl

@[simp] theorem writeMseccfg_virt (s : State) (v : XWord) :
    (s.writeMseccfg v).virt = s.virt := rfl

@[simp] theorem writeMseccfg_sseed (s : State) (v : XWord) :
    (s.writeMseccfg v).sseed = (s.cfg.sseedIsWritable && v.getLsbD 9) := rfl

@[simp] theorem writeMseccfg_useed (s : State) (v : XWord) :
    (s.writeMseccfg v).useed = (s.cfg.useedIsWritable && v.getLsbD 8) := rfl

@[simp] theorem writeMseccfg_es (s : State) (v : XWord) :
    (s.writeMseccfg v).es = s.es := rfl

@[simp] theorem writeMseccfg_mem (s : State) (v : XWord) :
    (s.writeMseccfg v).mem = s.mem := rfl

@[simp] theorem writeMseccfg_draws (s : State) (v : XWord) :
    (s.writeMseccfg v).draws = s.draws := rfl

/-! ## `accessMseccfgh` -/

@[simp] theorem accessMseccfgh_cfg (s : State) (r : Reg) :
    (s.accessMseccfgh r).cfg = s.cfg := rfl

@[simp] theorem accessMseccfgh_x (s : State) (r : Reg) :
    (s.accessMseccfgh r).x = setReg s.cfg.xlen s.x r 0 := rfl

@[simp] theorem accessMseccfgh_pc (s : State) (r : Reg) :
    (s.accessMseccfgh r).pc = s.nextPc := rfl

@[simp] theorem accessMseccfgh_priv (s : State) (r : Reg) :
    (s.accessMseccfgh r).priv = s.priv := rfl

@[simp] theorem accessMseccfgh_virt (s : State) (r : Reg) :
    (s.accessMseccfgh r).virt = s.virt := rfl

@[simp] theorem accessMseccfgh_sseed (s : State) (r : Reg) :
    (s.accessMseccfgh r).sseed = s.sseed := rfl

@[simp] theorem accessMseccfgh_useed (s : State) (r : Reg) :
    (s.accessMseccfgh r).useed = s.useed := rfl

@[simp] theorem accessMseccfgh_es (s : State) (r : Reg) :
    (s.accessMseccfgh r).es = s.es := rfl

@[simp] theorem accessMseccfgh_mem (s : State) (r : Reg) :
    (s.accessMseccfgh r).mem = s.mem := rfl

@[simp] theorem accessMseccfgh_draws (s : State) (r : Reg) :
    (s.accessMseccfgh r).draws = s.draws := rfl

/-! ## `accessMnoise` -/

@[simp] theorem accessMnoise_cfg (s : State) (r : Reg) (op : CsrOp) (f : BitVec 5) (src : XWord) :
    (s.accessMnoise r op f src).cfg = s.cfg := rfl

@[simp] theorem accessMnoise_x (s : State) (r : Reg) (op : CsrOp) (f : BitVec 5) (src : XWord) :
    (s.accessMnoise r op f src).x = setReg s.cfg.xlen s.x r s.mnoise := rfl

@[simp] theorem accessMnoise_pc (s : State) (r : Reg) (op : CsrOp) (f : BitVec 5) (src : XWord) :
    (s.accessMnoise r op f src).pc = s.nextPc := rfl

@[simp] theorem accessMnoise_priv (s : State) (r : Reg) (op : CsrOp) (f : BitVec 5) (src : XWord) :
    (s.accessMnoise r op f src).priv = s.priv := rfl

@[simp] theorem accessMnoise_virt (s : State) (r : Reg) (op : CsrOp) (f : BitVec 5) (src : XWord) :
    (s.accessMnoise r op f src).virt = s.virt := rfl

@[simp] theorem accessMnoise_sseed (s : State) (r : Reg) (op : CsrOp) (f : BitVec 5) (src : XWord) :
    (s.accessMnoise r op f src).sseed = s.sseed := rfl

@[simp] theorem accessMnoise_useed (s : State) (r : Reg) (op : CsrOp) (f : BitVec 5) (src : XWord) :
    (s.accessMnoise r op f src).useed = s.useed := rfl

@[simp] theorem accessMnoise_es (s : State) (r : Reg) (op : CsrOp) (f : BitVec 5) (src : XWord) :
    (s.accessMnoise r op f src).es = (if op.isWrite f then
        { s.es with noiseTest := (op.newValue s.mnoise src).getLsbD 31 }
      else s.es) := rfl

@[simp] theorem accessMnoise_mem (s : State) (r : Reg) (op : CsrOp) (f : BitVec 5) (src : XWord) :
    (s.accessMnoise r op f src).mem = s.mem := rfl

@[simp] theorem accessMnoise_draws (s : State) (r : Reg) (op : CsrOp) (f : BitVec 5) (src : XWord) :
    (s.accessMnoise r op f src).draws = s.draws := rfl

/-! ## `accessMseccfg` -/

@[simp] theorem accessMseccfg_cfg (s : State) (r : Reg) (op : CsrOp) (f : BitVec 5) (src : XWord) :
    (s.accessMseccfg r op f src).cfg =
      s.cfg := by
  unfold State.accessMseccfg; split <;> rfl

@[simp] theorem accessMseccfg_x (s : State) (r : Reg) (op : CsrOp) (f : BitVec 5) (src : XWord) :
    (s.accessMseccfg r op f src).x =
      setReg s.cfg.xlen s.x r s.mseccfg := by
  unfold State.accessMseccfg; split <;> rfl

@[simp] theorem accessMseccfg_pc (s : State) (r : Reg) (op : CsrOp) (f : BitVec 5) (src : XWord) :
    (s.accessMseccfg r op f src).pc =
      s.nextPc := by
  unfold State.accessMseccfg; split <;> rfl

@[simp] theorem accessMseccfg_priv (s : State) (r : Reg) (op : CsrOp) (f : BitVec 5) (src : XWord) :
    (s.accessMseccfg r op f src).priv =
      s.priv := by
  unfold State.accessMseccfg; split <;> rfl

@[simp] theorem accessMseccfg_virt (s : State) (r : Reg) (op : CsrOp) (f : BitVec 5) (src : XWord) :
    (s.accessMseccfg r op f src).virt =
      s.virt := by
  unfold State.accessMseccfg; split <;> rfl

@[simp] theorem accessMseccfg_sseed (s : State) (r : Reg) (op : CsrOp) (f : BitVec 5) (src : XWord) :
    (s.accessMseccfg r op f src).sseed =
      (if op.isWrite f then s.cfg.sseedIsWritable && (op.newValue s.mseccfg src).getLsbD 9 else s.sseed) := by
  unfold State.accessMseccfg; split <;> rfl

@[simp] theorem accessMseccfg_useed (s : State) (r : Reg) (op : CsrOp) (f : BitVec 5) (src : XWord) :
    (s.accessMseccfg r op f src).useed =
      (if op.isWrite f then s.cfg.useedIsWritable && (op.newValue s.mseccfg src).getLsbD 8 else s.useed) := by
  unfold State.accessMseccfg; split <;> rfl

@[simp] theorem accessMseccfg_es (s : State) (r : Reg) (op : CsrOp) (f : BitVec 5) (src : XWord) :
    (s.accessMseccfg r op f src).es =
      s.es := by
  unfold State.accessMseccfg; split <;> rfl

@[simp] theorem accessMseccfg_mem (s : State) (r : Reg) (op : CsrOp) (f : BitVec 5) (src : XWord) :
    (s.accessMseccfg r op f src).mem =
      s.mem := by
  unfold State.accessMseccfg; split <;> rfl

@[simp] theorem accessMseccfg_draws (s : State) (r : Reg) (op : CsrOp) (f : BitVec 5) (src : XWord) :
    (s.accessMseccfg r op f src).draws =
      s.draws := by
  unfold State.accessMseccfg; split <;> rfl

end Sys2Proof.Laws
end

