-- ==== Sys2Proof/Laws/Registers.lean ====
section
/-! SUPPORT. Reading and writing registers, the width of XLEN-bit values, and `pc + 4`. -/

namespace Sys2Proof.Laws

open Sys2Proof.Machine

/-! ## Widths -/

theorem truncX_toNat (x : Xlen) (v : XWord) : (truncX x v).toNat = v.toNat % 2 ^ x.bits := by
  cases x with
  | rv32 => simp only [truncX, Xlen.bits, BitVec.toNat_setWidth]; omega
  | rv64 => simp only [truncX, Xlen.bits]; have := v.isLt; omega

theorem truncX_lt (x : Xlen) (v : XWord) : (truncX x v).toNat < 2 ^ x.bits := by
  rw [truncX_toNat]; exact Nat.mod_lt _ (Nat.two_pow_pos _)

theorem truncX_of_lt {x : Xlen} {v : XWord} (h : v.toNat < 2 ^ x.bits) : truncX x v = v := by
  apply BitVec.eq_of_toNat_eq; rw [truncX_toNat]; exact Nat.mod_eq_of_lt h

@[simp] theorem truncX_truncX (x : Xlen) (v : XWord) : truncX x (truncX x v) = truncX x v :=
  truncX_of_lt (truncX_lt x v)

theorem truncX_getLsbD (x : Xlen) (v : XWord) (k : Nat) :
    (truncX x v).getLsbD k = (decide (k < x.bits) && v.getLsbD k) := by
  cases x with
  | rv32 =>
    simp only [truncX, Xlen.bits, BitVec.getLsbD_setWidth]
    by_cases h : k < 32
    · simp [h, show k < 64 by omega]
    · simp [h]
  | rv64 =>
    simp only [truncX, Xlen.bits]
    by_cases h : k < 64
    · simp [h]
    · simp [h, BitVec.getLsbD_of_ge v k (by omega)]

theorem zextX_lt (x : Xlen) (v : Word32) : (zextX v).toNat < 2 ^ x.bits := by
  have := v.isLt
  cases x <;> simp only [zextX, Xlen.bits, BitVec.toNat_setWidth] <;> omega

theorem sextX_lt (x : Xlen) (v : Word32) : (sextX x v).toNat < 2 ^ x.bits := by
  cases x with
  | rv32 => exact zextX_lt .rv32 v
  | rv64 => exact (v.signExtend 64).isLt

/-! ## Registers -/

@[simp] theorem readX_zero (s : State) : s.readX 0 = 0 := by simp [State.readX]

theorem readX_lt (s : State) (r : Reg) : (s.readX r).toNat < 2 ^ s.cfg.xlen.bits := by
  unfold State.readX; split
  · exact Nat.two_pow_pos _
  · exact truncX_lt _ _

theorem readX_trunc (s : State) (r : Reg) : truncX s.cfg.xlen (s.readX r) = s.readX r :=
  truncX_of_lt (readX_lt s r)

/-- `readX` looks at the width and the register file only. -/
theorem readX_congr {s t : State} (hc : t.cfg = s.cfg) (hx : t.x = s.x) (r : Reg) :
    t.readX r = s.readX r := by
  unfold State.readX; rw [hc, hx]

theorem getElem_setReg (x : Xlen) (regs : Vector XWord 32) (q r : Reg) (v : XWord) :
    (setReg x regs q v)[r.toNat]'r.isLt =
      if r = q ∧ q ≠ 0 then truncX x v else regs[r.toNat]'r.isLt := by
  unfold setReg
  split
  · next h => simp [h]
  · next h =>
    by_cases hrq : r = q
    · subst hrq; rw [if_pos (And.intro rfl h), Vector.getElem_set_self]
    · have : q.toNat ≠ r.toNat := fun e => hrq (BitVec.eq_of_toNat_eq e.symm)
      simp only [hrq, false_and, if_false]; exact Vector.getElem_set_ne _ _ this

/-- What one register holds after `setReg`. -/
theorem readX_setReg {s t : State} (q : Reg) (v : XWord) (hc : t.cfg = s.cfg)
    (hx : t.x = setReg s.cfg.xlen s.x q v) (r : Reg) :
    t.readX r = if r = q ∧ r ≠ 0 then truncX s.cfg.xlen v else s.readX r := by
  simp only [State.readX, hc, hx, getElem_setReg]
  by_cases hr : r = 0
  · simp only [hr, if_true, ne_eq, not_true_eq_false, and_false, if_false]
  · by_cases hrq : r = q
    · subst hrq
      simp only [hr, if_false, ne_eq, not_false_eq_true, and_self, if_true, truncX_truncX]
    · simp only [hr, hrq, if_false, false_and]

theorem readX_writeX (s : State) (q r : Reg) (v : XWord) :
    (s.writeX q v).readX r = if r = q ∧ r ≠ 0 then truncX s.cfg.xlen v else s.readX r :=
  readX_setReg (s := s) (t := s.writeX q v) q v rfl rfl r

theorem readX_retire (s : State) (q r : Reg) (v : XWord) :
    (s.retire q v).readX r = if r = q ∧ r ≠ 0 then truncX s.cfg.xlen v else s.readX r :=
  readX_setReg (s := s) (t := s.retire q v) q v rfl rfl r

theorem readX_poll (s : State) (q r : Reg) (d : Draw) :
    (s.poll q d).readX r =
      if r = q ∧ r ≠ 0 then zextX (pollWord s.cfg s.es d) else s.readX r := by
  rw [readX_setReg (s := s) (t := s.poll q d) q (zextX (pollWord s.cfg s.es d)) rfl rfl,
    truncX_of_lt (zextX_lt _ _)]

/-! ## The program counter -/

theorem nextPc_toNat (s : State) :
    s.nextPc.toNat = (s.pc.toNat + 4) % 2 ^ s.cfg.xlen.bits := by
  have h4 : (4 : XWord).toNat = 4 := rfl
  rw [State.nextPc, truncX_toNat, BitVec.toNat_add, h4]
  cases s.cfg.xlen <;> simp only [Xlen.bits] <;> omega

end Sys2Proof.Laws
end

