-- ==== Sys2Proof/Laws/Execution.lean ====
section
/-! SUPPORT. What executing an instruction can do, said once: what the shared operations answer, and the
inversion of `exec` and `step`. Later proofs cite these and unfold no meaning. -/

namespace Sys2Proof.Laws

open Sys2Proof.Machine

/-! ## Raising -/

theorem raise_eq (e : Exception) (w : Word32) (s : State) :
    raise e w s = .fault (.trap ⟨e, s.pc, w⟩) := rfl

theorem raiseFrom_eq (e : Exception) (i : Instr) (s : State) :
    raiseFrom e i s = .fault (.trap ⟨e, s.pc, encode i⟩) := rfl

/-! ## The computational instructions -/

theorem compute_of_wellFormed {i : Instr} {v : XWord} {s : State} (h : i.wellFormed s.cfg = true) :
    compute i v s = .next (s.retire i.rd v) := by
  simp only [compute, ifWellFormed, h, if_true]

theorem compute_of_not {i : Instr} {v : XWord} {s : State} (h : i.wellFormed s.cfg = false) :
    compute i v s = raiseFrom .illegalInstruction i s := by
  simp only [compute, ifWellFormed, h, Bool.false_eq_true, if_false]

/-- Every computational instruction is `compute` of some value of the state. -/
theorem exec_computational (i : Instr) (h : i.isCsr = false) (s : State) :
    ∃ v, exec i s = compute i v s := by
  cases i <;> first | exact ⟨_, rfl⟩ | simp [Instr.isCsr] at h

/-! ## The CSR instructions -/

@[simp] theorem instr_rd (f : CsrForm) : f.instr.rd = f.rd := by
  obtain ⟨op, imm, rd, csr, field⟩ := f
  cases op <;> cases imm <;> rfl

@[simp] theorem instr_isCsr (f : CsrForm) : f.instr.isCsr = true := by
  obtain ⟨op, imm, rd, csr, field⟩ := f
  cases op <;> cases imm <;> rfl

/-- The forms are exactly the CSR constructors. -/
theorem exists_form (i : Instr) (h : i.isCsr = true) : ∃ f : CsrForm, i = f.instr := by
  cases i <;> first
    | exact ⟨⟨.rw, false, _, _, _⟩, rfl⟩ | exact ⟨⟨.rs, false, _, _, _⟩, rfl⟩
    | exact ⟨⟨.rc, false, _, _, _⟩, rfl⟩ | exact ⟨⟨.rw, true, _, _, _⟩, rfl⟩
    | exact ⟨⟨.rs, true, _, _, _⟩, rfl⟩ | exact ⟨⟨.rc, true, _, _, _⟩, rfl⟩
    | simp [Instr.isCsr] at h

/-- A CSR instruction is `csrAccess` with its operation, field and source. -/
theorem exec_form (f : CsrForm) (s : State) :
    exec f.instr s = csrAccess f.instr f.csr f.op f.field (f.source s) s := by
  obtain ⟨op, imm, rd, csr, field⟩ := f
  cases op <;> cases imm <;> rfl

/-- A CSR instruction is well formed when its address has a CSR. -/
theorem wellFormed_form (f : CsrForm) (c : Config) :
    f.instr.wellFormed c = (c.csrAt f.csr).isSome := by
  obtain ⟨op, imm, rd, csr, field⟩ := f
  cases op <;> cases imm <;>
    simp [CsrForm.instr, Instr.wellFormed, Instr.onXlen, Instr.inExt, Instr.isCsr, Instr.operandsOk]

/-- What a CSR instruction does on `seed`. -/
theorem exec_form_seed (f : CsrForm) (s : State) (h : s.cfg.csrAt f.csr = some .seed) :
    exec f.instr s = seedAccess f.instr f.op f.field (Config.draw s.draws) s := by
  have hw : f.instr.wellFormed s.cfg = true := by rw [wellFormed_form, h]; rfl
  rw [exec_form, csrAccess, ifWellFormed, if_pos hw, h]

/-- What a CSR instruction does on `mseccfg`. -/
theorem exec_form_mseccfg (f : CsrForm) (s : State) (h : s.cfg.csrAt f.csr = some .mseccfg) :
    exec f.instr s = machineOnly f.instr s (.next (s.accessMseccfg f.rd f.op f.field (f.source s))) := by
  have hw : f.instr.wellFormed s.cfg = true := by rw [wellFormed_form, h]; rfl
  rw [exec_form, csrAccess, ifWellFormed, if_pos hw, h, instr_rd]

/-- What a CSR instruction does on `mseccfgh`. -/
theorem exec_form_mseccfgh (f : CsrForm) (s : State) (h : s.cfg.csrAt f.csr = some .mseccfgh) :
    exec f.instr s = machineOnly f.instr s (.next (s.accessMseccfgh f.rd)) := by
  have hw : f.instr.wellFormed s.cfg = true := by rw [wellFormed_form, h]; rfl
  rw [exec_form, csrAccess, ifWellFormed, if_pos hw, h, instr_rd]

/-- What a CSR instruction does on `mnoise`. -/
theorem exec_form_mnoise (f : CsrForm) (s : State) (h : s.cfg.csrAt f.csr = some .mnoise) :
    exec f.instr s = machineOnly f.instr s
      (.next (s.accessMnoise f.rd f.op f.field (f.source s))) := by
  have hw : f.instr.wellFormed s.cfg = true := by rw [wellFormed_form, h]; rfl
  rw [exec_form, csrAccess, ifWellFormed, if_pos hw, h, instr_rd]

/-- What a CSR instruction does at an address that has none. -/
theorem exec_form_of_none (f : CsrForm) (s : State) (h : s.cfg.csrAt f.csr = none) :
    exec f.instr s = raiseFrom .illegalInstruction f.instr s := by
  have hw : ¬ f.instr.wellFormed s.cfg = true := by rw [wellFormed_form, h]; simp
  rw [exec_form, csrAccess, ifWellFormed, if_neg hw]

/-! ## Inversion -/

/-- Everything an instruction can do when it completes. -/
theorem exec_next {i : Instr} {s t : State} (h : exec i s = .next t) :
    (i.isCsr = false ∧ i.wellFormed s.cfg = true ∧ ∃ v, t = s.retire i.rd v) ∨
    ∃ f : CsrForm, i = f.instr ∧
      ((s.cfg.csrAt f.csr = some .seed ∧ f.isWrite = true ∧ s.seedDenied = none ∧
          t = s.poll f.rd (Config.draw s.draws)) ∨
       (s.cfg.csrAt f.csr = some .mseccfg ∧ s.priv = .m ∧
          t = s.accessMseccfg f.rd f.op f.field (f.source s)) ∨
       (s.cfg.csrAt f.csr = some .mseccfgh ∧ s.priv = .m ∧ t = s.accessMseccfgh f.rd) ∨
       (s.cfg.csrAt f.csr = some .mnoise ∧ s.priv = .m ∧
          t = s.accessMnoise f.rd f.op f.field (f.source s))) := by
  cases hc : i.isCsr with
  | false =>
    obtain ⟨v, hv⟩ := exec_computational i hc s
    rw [hv] at h
    cases hw : i.wellFormed s.cfg with
    | false => rw [compute_of_not hw, raiseFrom_eq] at h; cases h
    | true =>
      rw [compute_of_wellFormed hw] at h
      exact .inl ⟨rfl, rfl, v, by cases h; rfl⟩
  | true =>
    obtain ⟨f, rfl⟩ := exists_form i hc
    refine .inr ⟨f, rfl, ?_⟩
    cases hn : s.cfg.csrAt f.csr with
    | none => rw [exec_form_of_none f s hn, raiseFrom_eq] at h; cases h
    | some n =>
      cases n with
      | seed =>
        rw [exec_form_seed f s hn] at h
        simp only [seedAccess, instr_rd] at h
        split at h
        · next hw =>
          split at h
          · cases h
          · next hd => cases h; exact .inl ⟨rfl, hw, hd, rfl⟩
        · cases h
      | mseccfg =>
        rw [exec_form_mseccfg f s hn] at h
        simp only [machineOnly] at h
        split at h
        · next hp => cases h; exact .inr (.inl ⟨rfl, hp, rfl⟩)
        · cases h
      | mseccfgh =>
        rw [exec_form_mseccfgh f s hn] at h
        simp only [machineOnly] at h
        split at h
        · next hp => cases h; exact .inr (.inr (.inl ⟨rfl, hp, rfl⟩))
        · cases h
      | mnoise =>
        rw [exec_form_mnoise f s hn] at h
        simp only [machineOnly] at h
        split at h
        · next hp => cases h; exact .inr (.inr (.inr ⟨rfl, hp, rfl⟩))
        · cases h

/-- A step that completes executes the instruction that was fetched and decoded. -/
theorem step_next {s t : State} (h : step s = .next t) :
    ∃ w i, fetch s = .ok w ∧ decodeWord s.cfg w = .instr i ∧ exec i s = .next t := by
  unfold step at h
  split at h
  · cases h
  · next w hw =>
    split at h
    · next i hi => exact ⟨w, i, hw, hi, h⟩
    · cases h

end Sys2Proof.Laws
end

