-- ==== Sys2Proof/Laws/Memory.lean ====
section
/-! SUPPORT. The laws of memory: read after write, and every operation keeps the canonical form. -/

namespace Sys2Proof.Laws

open Sys2Proof.Machine

theorem read_write_same (m : Memory) (k : Nat) (v : Byte) : (m.write k v).read k = some v := by
  induction m with
  | nil => simp [Memory.write, Memory.read]
  | cons c m ih =>
    obtain ⟨a, b⟩ := c
    simp only [Memory.write]
    split
    · simp [Memory.read]
    · split
      · simp [Memory.read]
      · simp [Memory.read, *]

theorem read_write_ne (m : Memory) {k j : Nat} (v : Byte) (h : j ≠ k) :
    (m.write k v).read j = m.read j := by
  induction m with
  | nil => simp [Memory.write, Memory.read, h]
  | cons c m ih =>
    obtain ⟨a, b⟩ := c
    simp only [Memory.write]
    split
    · simp [Memory.read, h]
    · split
      · next hk => subst hk; simp [Memory.read, h]
      · simp only [Memory.read, ih]

/-- The least address of a memory, or a bound above all addresses of the empty one. -/
theorem wf_cons {a : Nat} {b : Byte} {m : Memory} (h : Memory.wf ((a, b) :: m) = true) :
    m.wf = true ∧ ∀ c ∈ m.head?, a < c.1 := by
  cases m with
  | nil => simp [Memory.wf]
  | cons c m => obtain ⟨a', b'⟩ := c; simp_all [Memory.wf]

theorem wf_of_cons {a : Nat} {b : Byte} {m : Memory} (hm : m.wf = true)
    (h : ∀ c ∈ m.head?, a < c.1) : Memory.wf ((a, b) :: m) = true := by
  cases m with
  | nil => rfl
  | cons c m => obtain ⟨a', b'⟩ := c; simp_all [Memory.wf]

theorem head_write (m : Memory) (k : Nat) (v : Byte) :
    ∀ c ∈ (m.write k v).head?, c.1 = k ∨ ∃ d ∈ m.head?, d.1 = c.1 := by
  cases m with
  | nil => simp [Memory.write]
  | cons c m =>
    obtain ⟨a, b⟩ := c
    simp only [Memory.write]
    split
    · simp
    · split
      · simp
      · simp

theorem write_wf {m : Memory} (k : Nat) (v : Byte) (h : m.wf = true) : (m.write k v).wf = true := by
  induction m with
  | nil => rfl
  | cons c m ih =>
    obtain ⟨a, b⟩ := c
    have ⟨hm, hh⟩ := wf_cons h
    simp only [Memory.write]
    split
    · next hk => exact wf_of_cons h (by simpa using hk)
    · split
      · next hk => subst hk; exact wf_of_cons hm hh
      · next h1 h2 =>
        refine wf_of_cons (ih hm) fun c hc => ?_
        rcases head_write m k v c hc with h | ⟨d, hd, h⟩
        · omega
        · have := hh d hd; omega

theorem mem_write {m : Memory} {k : Nat} {v : Byte} {c : Host.Cell} (h : c ∈ m.write k v) :
    c = (k, v) ∨ c ∈ m := by
  induction m with
  | nil => simpa [Memory.write] using h
  | cons d m ih =>
    obtain ⟨a, b⟩ := d
    simp only [Memory.write] at h
    split at h
    · simpa using h
    · split at h
      · simp only [List.mem_cons] at h ⊢; exact h.imp id .inr
      · simp only [List.mem_cons] at h ⊢
        rcases h with h | h
        · exact .inr (.inl h)
        · exact (ih h).imp id .inr

theorem addrAt_lt (x : Xlen) (a : XWord) (k : Nat) : addrAt x a k < 2 ^ x.bits := by
  cases x with
  | rv32 => simp only [addrAt, truncX, Xlen.bits, BitVec.toNat_setWidth]; omega
  | rv64 => exact BitVec.isLt _

theorem writeBytes_wf (bs : List Byte) :
    ∀ (s : State) (a : XWord) (k : Nat), s.mem.wf = true → (s.writeBytes a k bs).mem.wf = true := by
  induction bs with
  | nil => exact fun _ _ _ h => h
  | cons b bs ih => exact fun s a k h => ih _ a (k + 1) (write_wf _ _ h)

theorem placeWord_wf {s : State} (w : Word32) (h : s.mem.wf = true) : (placeWord s w).mem.wf = true :=
  writeBytes_wf _ _ _ _ h

end Sys2Proof.Laws
end

