-- ==== Sys2Proof/Laws/PerInstr.lean ====
section
/-! SUPPORT. The family `EncodesRow`: the word of an instruction has the pattern of a decode row that
reads the instruction back. One lemma per constructor, over one lemma per format. -/

namespace Sys2Proof.Laws

/-! ## A field put into a word by `|||` -/

theorem or_field_extract {w : Nat} (p : Word32) (f : BitVec w) (pos k : Nat) (hk : k < w)
    (hp : pos + w ≤ 32) (h0 : p.getLsbD (pos + k) = false) :
    (p ||| (f.setWidth 32 <<< pos)).getLsbD (pos + k) = f.getLsbD k := by
  rw [BitVec.getLsbD_or, h0, BitVec.getLsbD_shiftLeft, BitVec.getLsbD_setWidth]
  have h1 : pos + k < 32 := by omega
  have h2 : k < 32 := by omega
  simp [h1, h2]

theorem or_field_outside {w : Nat} (p : Word32) (f : BitVec w) (pos j : Nat)
    (h : j < pos ∨ pos + w ≤ j) :
    (p ||| (f.setWidth 32 <<< pos)).getLsbD j = p.getLsbD j := by
  rw [BitVec.getLsbD_or, BitVec.getLsbD_shiftLeft, BitVec.getLsbD_setWidth]
  rcases h with h | h
  · simp [h]
  · rw [BitVec.getLsbD_of_ge f (j - pos) (by omega)]; simp

theorem extract_or_field {w : Nat} (p : Word32) (f : BitVec w) (pos : Nat)
    (hp : pos + w ≤ 32) (h0 : p.extractLsb' pos w = 0) :
    (p ||| (f.setWidth 32 <<< pos)).extractLsb' pos w = f := by
  apply BitVec.eq_of_getLsbD_eq
  intro k hk
  have h := congrArg (fun v : BitVec w => v.getLsbD k) h0
  simp only [BitVec.getLsbD_extractLsb', hk, decide_true, Bool.true_and] at h
  rw [BitVec.getLsbD_extractLsb', or_field_extract p f pos k hk hp (by simpa using h)]
  simp [hk]

theorem extract_or_other {w w' : Nat} (p : Word32) (f : BitVec w) (pos pos' : Nat)
    (h : pos' + w' ≤ pos ∨ pos + w ≤ pos') :
    (p ||| (f.setWidth 32 <<< pos)).extractLsb' pos' w' = p.extractLsb' pos' w' := by
  apply BitVec.eq_of_getLsbD_eq
  intro k hk
  rw [BitVec.getLsbD_extractLsb', BitVec.getLsbD_extractLsb', or_field_outside p f pos _ (by omega)]

theorem and_or_field {w : Nat} (p m : Word32) (f : BitVec w) (pos : Nat)
    (h : m.extractLsb' pos w = 0) :
    (p ||| (f.setWidth 32 <<< pos)) &&& m = p &&& m := by
  apply BitVec.eq_of_getLsbD_eq
  intro k hk
  rw [BitVec.getLsbD_and, BitVec.getLsbD_and]
  by_cases hi : k < pos ∨ pos + w ≤ k
  · rw [or_field_outside p f pos k hi]
  · have hm := congrArg (fun v : BitVec w => v.getLsbD (k - pos)) h
    simp only [BitVec.getLsbD_extractLsb', show k - pos < w by omega, decide_true, Bool.true_and,
      show pos + (k - pos) = k by omega] at hm
    have hm' : m.getLsbD k = false := by simpa using hm
    rw [hm', Bool.and_false, Bool.and_false]

/-! ## One lemma per format: the encoded word selects its row, which reads the fields back -/

theorem encR_row (p : Word32) (k : Reg → Reg → Reg → Instr) (rd : Reg) (rs1 : Reg) (rs2 : Reg)
    (hm : p &&& 0xFE00707F = p)
    (hrd : p.extractLsb' 7 5 = 0)
    (hrs1 : p.extractLsb' 15 5 = 0)
    (hrs2 : p.extractLsb' 20 5 = 0) :
    (rowR p k).matchesWord (encR p rd rs1 rs2) = true ∧
      (rowR p k).build (encR p rd rs1 rs2) = k rd rs1 rs2 := by
  constructor
  · simp only [DecodeRow.matchesWord, rowR, encR]
    rw [and_or_field _ _ _ _ (by decide), and_or_field _ _ _ _ (by decide), and_or_field _ _ _ _ (by decide), hm]
    exact beq_self_eq_true p
  · have erd : (((p ||| (rd.setWidth 32 <<< 7)) ||| (rs1.setWidth 32 <<< 15)) ||| (rs2.setWidth 32 <<< 20)).extractLsb' 7 5 = rd := by
      rw [extract_or_other _ _ _ _ (by decide), extract_or_other _ _ _ _ (by decide), extract_or_field _ rd 7 (by decide) hrd]
    have ers1 : (((p ||| (rd.setWidth 32 <<< 7)) ||| (rs1.setWidth 32 <<< 15)) ||| (rs2.setWidth 32 <<< 20)).extractLsb' 15 5 = rs1 := by
      rw [extract_or_other _ _ _ _ (by decide), extract_or_field _ rs1 15 (by decide) (by rw [extract_or_other _ _ _ _ (by decide)]; exact hrs1)]
    have ers2 : (((p ||| (rd.setWidth 32 <<< 7)) ||| (rs1.setWidth 32 <<< 15)) ||| (rs2.setWidth 32 <<< 20)).extractLsb' 20 5 = rs2 := by
      rw [extract_or_field _ rs2 20 (by decide) (by rw [extract_or_other _ _ _ _ (by decide), extract_or_other _ _ _ _ (by decide)]; exact hrs2)]
    simp only [rowR, encR, fieldRd, fieldRs1, fieldRs2, erd, ers1, ers2]

theorem encBs_row (p : Word32) (k : Reg → Reg → Reg → BitVec 2 → Instr) (rd : Reg) (rs1 : Reg) (rs2 : Reg) (bs : BitVec 2)
    (hm : p &&& 0x3E00707F = p)
    (hrd : p.extractLsb' 7 5 = 0)
    (hrs1 : p.extractLsb' 15 5 = 0)
    (hrs2 : p.extractLsb' 20 5 = 0)
    (hbs : p.extractLsb' 30 2 = 0) :
    (rowBs p k).matchesWord (encBs p rd rs1 rs2 bs) = true ∧
      (rowBs p k).build (encBs p rd rs1 rs2 bs) = k rd rs1 rs2 bs := by
  constructor
  · simp only [DecodeRow.matchesWord, rowBs, encBs, encR]
    rw [and_or_field _ _ _ _ (by decide), and_or_field _ _ _ _ (by decide), and_or_field _ _ _ _ (by decide), and_or_field _ _ _ _ (by decide), hm]
    exact beq_self_eq_true p
  · have erd : ((((p ||| (rd.setWidth 32 <<< 7)) ||| (rs1.setWidth 32 <<< 15)) ||| (rs2.setWidth 32 <<< 20)) ||| (bs.setWidth 32 <<< 30)).extractLsb' 7 5 = rd := by
      rw [extract_or_other _ _ _ _ (by decide), extract_or_other _ _ _ _ (by decide), extract_or_other _ _ _ _ (by decide), extract_or_field _ rd 7 (by decide) hrd]
    have ers1 : ((((p ||| (rd.setWidth 32 <<< 7)) ||| (rs1.setWidth 32 <<< 15)) ||| (rs2.setWidth 32 <<< 20)) ||| (bs.setWidth 32 <<< 30)).extractLsb' 15 5 = rs1 := by
      rw [extract_or_other _ _ _ _ (by decide), extract_or_other _ _ _ _ (by decide), extract_or_field _ rs1 15 (by decide) (by rw [extract_or_other _ _ _ _ (by decide)]; exact hrs1)]
    have ers2 : ((((p ||| (rd.setWidth 32 <<< 7)) ||| (rs1.setWidth 32 <<< 15)) ||| (rs2.setWidth 32 <<< 20)) ||| (bs.setWidth 32 <<< 30)).extractLsb' 20 5 = rs2 := by
      rw [extract_or_other _ _ _ _ (by decide), extract_or_field _ rs2 20 (by decide) (by rw [extract_or_other _ _ _ _ (by decide), extract_or_other _ _ _ _ (by decide)]; exact hrs2)]
    have ebs : ((((p ||| (rd.setWidth 32 <<< 7)) ||| (rs1.setWidth 32 <<< 15)) ||| (rs2.setWidth 32 <<< 20)) ||| (bs.setWidth 32 <<< 30)).extractLsb' 30 2 = bs := by
      rw [extract_or_field _ bs 30 (by decide) (by rw [extract_or_other _ _ _ _ (by decide), extract_or_other _ _ _ _ (by decide), extract_or_other _ _ _ _ (by decide)]; exact hbs)]
    simp only [rowBs, encBs, encR, fieldRd, fieldRs1, fieldRs2, fieldBs, erd, ers1, ers2, ebs]

theorem encI_row (p : Word32) (k : Reg → Reg → Instr) (rd : Reg) (rs1 : Reg)
    (hm : p &&& 0xFFF0707F = p)
    (hrd : p.extractLsb' 7 5 = 0)
    (hrs1 : p.extractLsb' 15 5 = 0) :
    (rowI p k).matchesWord (encI p rd rs1) = true ∧
      (rowI p k).build (encI p rd rs1) = k rd rs1 := by
  constructor
  · simp only [DecodeRow.matchesWord, rowI, encI]
    rw [and_or_field _ _ _ _ (by decide), and_or_field _ _ _ _ (by decide), hm]
    exact beq_self_eq_true p
  · have erd : ((p ||| (rd.setWidth 32 <<< 7)) ||| (rs1.setWidth 32 <<< 15)).extractLsb' 7 5 = rd := by
      rw [extract_or_other _ _ _ _ (by decide), extract_or_field _ rd 7 (by decide) hrd]
    have ers1 : ((p ||| (rd.setWidth 32 <<< 7)) ||| (rs1.setWidth 32 <<< 15)).extractLsb' 15 5 = rs1 := by
      rw [extract_or_field _ rs1 15 (by decide) (by rw [extract_or_other _ _ _ _ (by decide)]; exact hrs1)]
    simp only [rowI, encI, fieldRd, fieldRs1, erd, ers1]

theorem encShamt5_row (p : Word32) (k : Reg → Reg → BitVec 5 → Instr) (rd : Reg) (rs1 : Reg) (shamt : BitVec 5)
    (hm : p &&& 0xFE00707F = p)
    (hrd : p.extractLsb' 7 5 = 0)
    (hrs1 : p.extractLsb' 15 5 = 0)
    (hshamt : p.extractLsb' 20 5 = 0) :
    (rowShamt5 p k).matchesWord (encShamt5 p rd rs1 shamt) = true ∧
      (rowShamt5 p k).build (encShamt5 p rd rs1 shamt) = k rd rs1 shamt := by
  constructor
  · simp only [DecodeRow.matchesWord, rowShamt5, encShamt5, encI]
    rw [and_or_field _ _ _ _ (by decide), and_or_field _ _ _ _ (by decide), and_or_field _ _ _ _ (by decide), hm]
    exact beq_self_eq_true p
  · have erd : (((p ||| (rd.setWidth 32 <<< 7)) ||| (rs1.setWidth 32 <<< 15)) ||| (shamt.setWidth 32 <<< 20)).extractLsb' 7 5 = rd := by
      rw [extract_or_other _ _ _ _ (by decide), extract_or_other _ _ _ _ (by decide), extract_or_field _ rd 7 (by decide) hrd]
    have ers1 : (((p ||| (rd.setWidth 32 <<< 7)) ||| (rs1.setWidth 32 <<< 15)) ||| (shamt.setWidth 32 <<< 20)).extractLsb' 15 5 = rs1 := by
      rw [extract_or_other _ _ _ _ (by decide), extract_or_field _ rs1 15 (by decide) (by rw [extract_or_other _ _ _ _ (by decide)]; exact hrs1)]
    have eshamt : (((p ||| (rd.setWidth 32 <<< 7)) ||| (rs1.setWidth 32 <<< 15)) ||| (shamt.setWidth 32 <<< 20)).extractLsb' 20 5 = shamt := by
      rw [extract_or_field _ shamt 20 (by decide) (by rw [extract_or_other _ _ _ _ (by decide), extract_or_other _ _ _ _ (by decide)]; exact hshamt)]
    simp only [rowShamt5, encShamt5, encI, fieldRd, fieldRs1, fieldRs2, erd, ers1, eshamt]

theorem encShamt6_row (p : Word32) (k : Reg → Reg → BitVec 6 → Instr) (rd : Reg) (rs1 : Reg) (shamt : BitVec 6)
    (hm : p &&& 0xFC00707F = p)
    (hrd : p.extractLsb' 7 5 = 0)
    (hrs1 : p.extractLsb' 15 5 = 0)
    (hshamt : p.extractLsb' 20 6 = 0) :
    (rowShamt6 p k).matchesWord (encShamt6 p rd rs1 shamt) = true ∧
      (rowShamt6 p k).build (encShamt6 p rd rs1 shamt) = k rd rs1 shamt := by
  constructor
  · simp only [DecodeRow.matchesWord, rowShamt6, encShamt6, encI]
    rw [and_or_field _ _ _ _ (by decide), and_or_field _ _ _ _ (by decide), and_or_field _ _ _ _ (by decide), hm]
    exact beq_self_eq_true p
  · have erd : (((p ||| (rd.setWidth 32 <<< 7)) ||| (rs1.setWidth 32 <<< 15)) ||| (shamt.setWidth 32 <<< 20)).extractLsb' 7 5 = rd := by
      rw [extract_or_other _ _ _ _ (by decide), extract_or_other _ _ _ _ (by decide), extract_or_field _ rd 7 (by decide) hrd]
    have ers1 : (((p ||| (rd.setWidth 32 <<< 7)) ||| (rs1.setWidth 32 <<< 15)) ||| (shamt.setWidth 32 <<< 20)).extractLsb' 15 5 = rs1 := by
      rw [extract_or_other _ _ _ _ (by decide), extract_or_field _ rs1 15 (by decide) (by rw [extract_or_other _ _ _ _ (by decide)]; exact hrs1)]
    have eshamt : (((p ||| (rd.setWidth 32 <<< 7)) ||| (rs1.setWidth 32 <<< 15)) ||| (shamt.setWidth 32 <<< 20)).extractLsb' 20 6 = shamt := by
      rw [extract_or_field _ shamt 20 (by decide) (by rw [extract_or_other _ _ _ _ (by decide), extract_or_other _ _ _ _ (by decide)]; exact hshamt)]
    simp only [rowShamt6, encShamt6, encI, fieldRd, fieldRs1, fieldShamt6, erd, ers1, eshamt]

theorem encRnum_row (p : Word32) (k : Reg → Reg → BitVec 4 → Instr) (rd : Reg) (rs1 : Reg) (rnum : BitVec 4)
    (hm : p &&& 0xFF00707F = p)
    (hrd : p.extractLsb' 7 5 = 0)
    (hrs1 : p.extractLsb' 15 5 = 0)
    (hrnum : p.extractLsb' 20 4 = 0) :
    (rowRnum p k).matchesWord (encRnum p rd rs1 rnum) = true ∧
      (rowRnum p k).build (encRnum p rd rs1 rnum) = k rd rs1 rnum := by
  constructor
  · simp only [DecodeRow.matchesWord, rowRnum, encRnum, encI]
    rw [and_or_field _ _ _ _ (by decide), and_or_field _ _ _ _ (by decide), and_or_field _ _ _ _ (by decide), hm]
    exact beq_self_eq_true p
  · have erd : (((p ||| (rd.setWidth 32 <<< 7)) ||| (rs1.setWidth 32 <<< 15)) ||| (rnum.setWidth 32 <<< 20)).extractLsb' 7 5 = rd := by
      rw [extract_or_other _ _ _ _ (by decide), extract_or_other _ _ _ _ (by decide), extract_or_field _ rd 7 (by decide) hrd]
    have ers1 : (((p ||| (rd.setWidth 32 <<< 7)) ||| (rs1.setWidth 32 <<< 15)) ||| (rnum.setWidth 32 <<< 20)).extractLsb' 15 5 = rs1 := by
      rw [extract_or_other _ _ _ _ (by decide), extract_or_field _ rs1 15 (by decide) (by rw [extract_or_other _ _ _ _ (by decide)]; exact hrs1)]
    have ernum : (((p ||| (rd.setWidth 32 <<< 7)) ||| (rs1.setWidth 32 <<< 15)) ||| (rnum.setWidth 32 <<< 20)).extractLsb' 20 4 = rnum := by
      rw [extract_or_field _ rnum 20 (by decide) (by rw [extract_or_other _ _ _ _ (by decide), extract_or_other _ _ _ _ (by decide)]; exact hrnum)]
    simp only [rowRnum, encRnum, encI, fieldRd, fieldRs1, fieldRnum, erd, ers1, ernum]

theorem encCsr_row (p : Word32) (k : Reg → CsrAddr → BitVec 5 → Instr) (rd : Reg) (src : BitVec 5) (csr : CsrAddr)
    (hm : p &&& 0x0000707F = p)
    (hrd : p.extractLsb' 7 5 = 0)
    (hsrc : p.extractLsb' 15 5 = 0)
    (hcsr : p.extractLsb' 20 12 = 0) :
    (rowCsr p k).matchesWord (encCsr p rd csr src) = true ∧
      (rowCsr p k).build (encCsr p rd csr src) = k rd csr src := by
  constructor
  · simp only [DecodeRow.matchesWord, rowCsr, encCsr, encI]
    rw [and_or_field _ _ _ _ (by decide), and_or_field _ _ _ _ (by decide), and_or_field _ _ _ _ (by decide), hm]
    exact beq_self_eq_true p
  · have erd : (((p ||| (rd.setWidth 32 <<< 7)) ||| (src.setWidth 32 <<< 15)) ||| (csr.setWidth 32 <<< 20)).extractLsb' 7 5 = rd := by
      rw [extract_or_other _ _ _ _ (by decide), extract_or_other _ _ _ _ (by decide), extract_or_field _ rd 7 (by decide) hrd]
    have esrc : (((p ||| (rd.setWidth 32 <<< 7)) ||| (src.setWidth 32 <<< 15)) ||| (csr.setWidth 32 <<< 20)).extractLsb' 15 5 = src := by
      rw [extract_or_other _ _ _ _ (by decide), extract_or_field _ src 15 (by decide) (by rw [extract_or_other _ _ _ _ (by decide)]; exact hsrc)]
    have ecsr : (((p ||| (rd.setWidth 32 <<< 7)) ||| (src.setWidth 32 <<< 15)) ||| (csr.setWidth 32 <<< 20)).extractLsb' 20 12 = csr := by
      rw [extract_or_field _ csr 20 (by decide) (by rw [extract_or_other _ _ _ _ (by decide), extract_or_other _ _ _ _ (by decide)]; exact hcsr)]
    simp only [rowCsr, encCsr, encI, fieldRd, fieldRs1, fieldCsr, erd, esrc, ecsr]

/-! ## The family -/

/-- The word of an instruction selects a row that reads it back. -/
def EncodesRow.Statement (i : Instr) : Prop :=
  ∃ r ∈ decodeRows, r.matchesWord (encode i) = true ∧ r.build (encode i) = i

theorem EncodesRow.andn (rd rs1 rs2 : Reg) : EncodesRow.Statement (.andn rd rs1 rs2) :=
  ⟨_, List.mem_of_getElem? (show decodeRows[27]? = some (rowR 0x40007033 .andn) from rfl),
    encR_row 0x40007033 .andn rd rs1 rs2 (by decide) (by decide) (by decide) (by decide)⟩

theorem EncodesRow.orn (rd rs1 rs2 : Reg) : EncodesRow.Statement (.orn rd rs1 rs2) :=
  ⟨_, List.mem_of_getElem? (show decodeRows[25]? = some (rowR 0x40006033 .orn) from rfl),
    encR_row 0x40006033 .orn rd rs1 rs2 (by decide) (by decide) (by decide) (by decide)⟩

theorem EncodesRow.xnor (rd rs1 rs2 : Reg) : EncodesRow.Statement (.xnor rd rs1 rs2) :=
  ⟨_, List.mem_of_getElem? (show decodeRows[23]? = some (rowR 0x40004033 .xnor) from rfl),
    encR_row 0x40004033 .xnor rd rs1 rs2 (by decide) (by decide) (by decide) (by decide)⟩

theorem EncodesRow.rol (rd rs1 rs2 : Reg) : EncodesRow.Statement (.rol rd rs1 rs2) :=
  ⟨_, List.mem_of_getElem? (show decodeRows[18]? = some (rowR 0x60001033 .rol) from rfl),
    encR_row 0x60001033 .rol rd rs1 rs2 (by decide) (by decide) (by decide) (by decide)⟩

theorem EncodesRow.rolw (rd rs1 rs2 : Reg) : EncodesRow.Statement (.rolw rd rs1 rs2) :=
  ⟨_, List.mem_of_getElem? (show decodeRows[28]? = some (rowR 0x6000103B .rolw) from rfl),
    encR_row 0x6000103B .rolw rd rs1 rs2 (by decide) (by decide) (by decide) (by decide)⟩

theorem EncodesRow.ror (rd rs1 rs2 : Reg) : EncodesRow.Statement (.ror rd rs1 rs2) :=
  ⟨_, List.mem_of_getElem? (show decodeRows[24]? = some (rowR 0x60005033 .ror) from rfl),
    encR_row 0x60005033 .ror rd rs1 rs2 (by decide) (by decide) (by decide) (by decide)⟩

theorem EncodesRow.roriRv32 (rd rs1 : Reg) (shamt : BitVec 5) : EncodesRow.Statement (.roriRv32 rd rs1 shamt) :=
  ⟨_, List.mem_of_getElem? (show decodeRows[45]? = some (rowShamt5 0x60005013 .roriRv32) from rfl),
    encShamt5_row 0x60005013 .roriRv32 rd rs1 shamt (by decide) (by decide) (by decide) (by decide)⟩

theorem EncodesRow.roriRv64 (rd rs1 : Reg) (shamt : BitVec 6) : EncodesRow.Statement (.roriRv64 rd rs1 shamt) :=
  ⟨_, List.mem_of_getElem? (show decodeRows[46]? = some (rowShamt6 0x60005013 .roriRv64) from rfl),
    encShamt6_row 0x60005013 .roriRv64 rd rs1 shamt (by decide) (by decide) (by decide) (by decide)⟩

theorem EncodesRow.roriw (rd rs1 : Reg) (shamt : BitVec 5) : EncodesRow.Statement (.roriw rd rs1 shamt) :=
  ⟨_, List.mem_of_getElem? (show decodeRows[50]? = some (rowShamt5 0x6000501B .roriw) from rfl),
    encShamt5_row 0x6000501B .roriw rd rs1 shamt (by decide) (by decide) (by decide) (by decide)⟩

theorem EncodesRow.rorw (rd rs1 rs2 : Reg) : EncodesRow.Statement (.rorw rd rs1 rs2) :=
  ⟨_, List.mem_of_getElem? (show decodeRows[30]? = some (rowR 0x6000503B .rorw) from rfl),
    encR_row 0x6000503B .rorw rd rs1 rs2 (by decide) (by decide) (by decide) (by decide)⟩

theorem EncodesRow.pack (rd rs1 rs2 : Reg) : EncodesRow.Statement (.pack rd rs1 rs2) :=
  ⟨_, List.mem_of_getElem? (show decodeRows[21]? = some (rowR 0x08004033 .pack) from rfl),
    encR_row 0x08004033 .pack rd rs1 rs2 (by decide) (by decide) (by decide) (by decide)⟩

theorem EncodesRow.packh (rd rs1 rs2 : Reg) : EncodesRow.Statement (.packh rd rs1 rs2) :=
  ⟨_, List.mem_of_getElem? (show decodeRows[26]? = some (rowR 0x08007033 .packh) from rfl),
    encR_row 0x08007033 .packh rd rs1 rs2 (by decide) (by decide) (by decide) (by decide)⟩

theorem EncodesRow.packw (rd rs1 rs2 : Reg) : EncodesRow.Statement (.packw rd rs1 rs2) :=
  ⟨_, List.mem_of_getElem? (show decodeRows[29]? = some (rowR 0x0800403B .packw) from rfl),
    encR_row 0x0800403B .packw rd rs1 rs2 (by decide) (by decide) (by decide) (by decide)⟩

theorem EncodesRow.brev8 (rd rs1 : Reg) : EncodesRow.Statement (.brev8 rd rs1) :=
  ⟨_, List.mem_of_getElem? (show decodeRows[47]? = some (rowI 0x68705013 .brev8) from rfl),
    encI_row 0x68705013 .brev8 rd rs1 (by decide) (by decide) (by decide)⟩

theorem EncodesRow.rev8Rv32 (rd rs1 : Reg) : EncodesRow.Statement (.rev8Rv32 rd rs1) :=
  ⟨_, List.mem_of_getElem? (show decodeRows[48]? = some (rowI 0x69805013 .rev8Rv32) from rfl),
    encI_row 0x69805013 .rev8Rv32 rd rs1 (by decide) (by decide) (by decide)⟩

theorem EncodesRow.rev8Rv64 (rd rs1 : Reg) : EncodesRow.Statement (.rev8Rv64 rd rs1) :=
  ⟨_, List.mem_of_getElem? (show decodeRows[49]? = some (rowI 0x6B805013 .rev8Rv64) from rfl),
    encI_row 0x6B805013 .rev8Rv64 rd rs1 (by decide) (by decide) (by decide)⟩

theorem EncodesRow.zip (rd rs1 : Reg) : EncodesRow.Statement (.zip rd rs1) :=
  ⟨_, List.mem_of_getElem? (show decodeRows[31]? = some (rowI 0x08F01013 .zip) from rfl),
    encI_row 0x08F01013 .zip rd rs1 (by decide) (by decide) (by decide)⟩

theorem EncodesRow.unzip (rd rs1 : Reg) : EncodesRow.Statement (.unzip rd rs1) :=
  ⟨_, List.mem_of_getElem? (show decodeRows[44]? = some (rowI 0x08F05013 .unzip) from rfl),
    encI_row 0x08F05013 .unzip rd rs1 (by decide) (by decide) (by decide)⟩

theorem EncodesRow.clmul (rd rs1 rs2 : Reg) : EncodesRow.Statement (.clmul rd rs1 rs2) :=
  ⟨_, List.mem_of_getElem? (show decodeRows[17]? = some (rowR 0x0A001033 .clmul) from rfl),
    encR_row 0x0A001033 .clmul rd rs1 rs2 (by decide) (by decide) (by decide) (by decide)⟩

theorem EncodesRow.clmulh (rd rs1 rs2 : Reg) : EncodesRow.Statement (.clmulh rd rs1 rs2) :=
  ⟨_, List.mem_of_getElem? (show decodeRows[20]? = some (rowR 0x0A003033 .clmulh) from rfl),
    encR_row 0x0A003033 .clmulh rd rs1 rs2 (by decide) (by decide) (by decide) (by decide)⟩

theorem EncodesRow.xperm8 (rd rs1 rs2 : Reg) : EncodesRow.Statement (.xperm8 rd rs1 rs2) :=
  ⟨_, List.mem_of_getElem? (show decodeRows[22]? = some (rowR 0x28004033 .xperm8) from rfl),
    encR_row 0x28004033 .xperm8 rd rs1 rs2 (by decide) (by decide) (by decide) (by decide)⟩

theorem EncodesRow.xperm4 (rd rs1 rs2 : Reg) : EncodesRow.Statement (.xperm4 rd rs1 rs2) :=
  ⟨_, List.mem_of_getElem? (show decodeRows[19]? = some (rowR 0x28002033 .xperm4) from rfl),
    encR_row 0x28002033 .xperm4 rd rs1 rs2 (by decide) (by decide) (by decide) (by decide)⟩

theorem EncodesRow.aes32dsi (rd rs1 rs2 : Reg) (bs : BitVec 2) : EncodesRow.Statement (.aes32dsi rd rs1 rs2 bs) :=
  ⟨_, List.mem_of_getElem? (show decodeRows[2]? = some (rowBs 0x2A000033 .aes32dsi) from rfl),
    encBs_row 0x2A000033 .aes32dsi rd rs1 rs2 bs (by decide) (by decide) (by decide) (by decide) (by decide)⟩

theorem EncodesRow.aes32dsmi (rd rs1 rs2 : Reg) (bs : BitVec 2) : EncodesRow.Statement (.aes32dsmi rd rs1 rs2 bs) :=
  ⟨_, List.mem_of_getElem? (show decodeRows[3]? = some (rowBs 0x2E000033 .aes32dsmi) from rfl),
    encBs_row 0x2E000033 .aes32dsmi rd rs1 rs2 bs (by decide) (by decide) (by decide) (by decide) (by decide)⟩

theorem EncodesRow.aes32esi (rd rs1 rs2 : Reg) (bs : BitVec 2) : EncodesRow.Statement (.aes32esi rd rs1 rs2 bs) :=
  ⟨_, List.mem_of_getElem? (show decodeRows[0]? = some (rowBs 0x22000033 .aes32esi) from rfl),
    encBs_row 0x22000033 .aes32esi rd rs1 rs2 bs (by decide) (by decide) (by decide) (by decide) (by decide)⟩

theorem EncodesRow.aes32esmi (rd rs1 rs2 : Reg) (bs : BitVec 2) : EncodesRow.Statement (.aes32esmi rd rs1 rs2 bs) :=
  ⟨_, List.mem_of_getElem? (show decodeRows[1]? = some (rowBs 0x26000033 .aes32esmi) from rfl),
    encBs_row 0x26000033 .aes32esmi rd rs1 rs2 bs (by decide) (by decide) (by decide) (by decide) (by decide)⟩

theorem EncodesRow.aes64ds (rd rs1 rs2 : Reg) : EncodesRow.Statement (.aes64ds rd rs1 rs2) :=
  ⟨_, List.mem_of_getElem? (show decodeRows[8]? = some (rowR 0x3A000033 .aes64ds) from rfl),
    encR_row 0x3A000033 .aes64ds rd rs1 rs2 (by decide) (by decide) (by decide) (by decide)⟩

theorem EncodesRow.aes64dsm (rd rs1 rs2 : Reg) : EncodesRow.Statement (.aes64dsm rd rs1 rs2) :=
  ⟨_, List.mem_of_getElem? (show decodeRows[9]? = some (rowR 0x3E000033 .aes64dsm) from rfl),
    encR_row 0x3E000033 .aes64dsm rd rs1 rs2 (by decide) (by decide) (by decide) (by decide)⟩

theorem EncodesRow.aes64es (rd rs1 rs2 : Reg) : EncodesRow.Statement (.aes64es rd rs1 rs2) :=
  ⟨_, List.mem_of_getElem? (show decodeRows[5]? = some (rowR 0x32000033 .aes64es) from rfl),
    encR_row 0x32000033 .aes64es rd rs1 rs2 (by decide) (by decide) (by decide) (by decide)⟩

theorem EncodesRow.aes64esm (rd rs1 rs2 : Reg) : EncodesRow.Statement (.aes64esm rd rs1 rs2) :=
  ⟨_, List.mem_of_getElem? (show decodeRows[7]? = some (rowR 0x36000033 .aes64esm) from rfl),
    encR_row 0x36000033 .aes64esm rd rs1 rs2 (by decide) (by decide) (by decide) (by decide)⟩

theorem EncodesRow.aes64im (rd rs1 : Reg) : EncodesRow.Statement (.aes64im rd rs1) :=
  ⟨_, List.mem_of_getElem? (show decodeRows[42]? = some (rowI 0x30001013 .aes64im) from rfl),
    encI_row 0x30001013 .aes64im rd rs1 (by decide) (by decide) (by decide)⟩

theorem EncodesRow.aes64ks1i (rd rs1 : Reg) (rnum : BitVec 4) : EncodesRow.Statement (.aes64ks1i rd rs1 rnum) :=
  ⟨_, List.mem_of_getElem? (show decodeRows[43]? = some (rowRnum 0x31001013 .aes64ks1i) from rfl),
    encRnum_row 0x31001013 .aes64ks1i rd rs1 rnum (by decide) (by decide) (by decide) (by decide)⟩

theorem EncodesRow.aes64ks2 (rd rs1 rs2 : Reg) : EncodesRow.Statement (.aes64ks2 rd rs1 rs2) :=
  ⟨_, List.mem_of_getElem? (show decodeRows[16]? = some (rowR 0x7E000033 .aes64ks2) from rfl),
    encR_row 0x7E000033 .aes64ks2 rd rs1 rs2 (by decide) (by decide) (by decide) (by decide)⟩

theorem EncodesRow.sha256sig0 (rd rs1 : Reg) : EncodesRow.Statement (.sha256sig0 rd rs1) :=
  ⟨_, List.mem_of_getElem? (show decodeRows[34]? = some (rowI 0x10201013 .sha256sig0) from rfl),
    encI_row 0x10201013 .sha256sig0 rd rs1 (by decide) (by decide) (by decide)⟩

theorem EncodesRow.sha256sig1 (rd rs1 : Reg) : EncodesRow.Statement (.sha256sig1 rd rs1) :=
  ⟨_, List.mem_of_getElem? (show decodeRows[35]? = some (rowI 0x10301013 .sha256sig1) from rfl),
    encI_row 0x10301013 .sha256sig1 rd rs1 (by decide) (by decide) (by decide)⟩

theorem EncodesRow.sha256sum0 (rd rs1 : Reg) : EncodesRow.Statement (.sha256sum0 rd rs1) :=
  ⟨_, List.mem_of_getElem? (show decodeRows[32]? = some (rowI 0x10001013 .sha256sum0) from rfl),
    encI_row 0x10001013 .sha256sum0 rd rs1 (by decide) (by decide) (by decide)⟩

theorem EncodesRow.sha256sum1 (rd rs1 : Reg) : EncodesRow.Statement (.sha256sum1 rd rs1) :=
  ⟨_, List.mem_of_getElem? (show decodeRows[33]? = some (rowI 0x10101013 .sha256sum1) from rfl),
    encI_row 0x10101013 .sha256sum1 rd rs1 (by decide) (by decide) (by decide)⟩

theorem EncodesRow.sha512sig0h (rd rs1 rs2 : Reg) : EncodesRow.Statement (.sha512sig0h rd rs1 rs2) :=
  ⟨_, List.mem_of_getElem? (show decodeRows[14]? = some (rowR 0x5C000033 .sha512sig0h) from rfl),
    encR_row 0x5C000033 .sha512sig0h rd rs1 rs2 (by decide) (by decide) (by decide) (by decide)⟩

theorem EncodesRow.sha512sig0l (rd rs1 rs2 : Reg) : EncodesRow.Statement (.sha512sig0l rd rs1 rs2) :=
  ⟨_, List.mem_of_getElem? (show decodeRows[12]? = some (rowR 0x54000033 .sha512sig0l) from rfl),
    encR_row 0x54000033 .sha512sig0l rd rs1 rs2 (by decide) (by decide) (by decide) (by decide)⟩

theorem EncodesRow.sha512sig1h (rd rs1 rs2 : Reg) : EncodesRow.Statement (.sha512sig1h rd rs1 rs2) :=
  ⟨_, List.mem_of_getElem? (show decodeRows[15]? = some (rowR 0x5E000033 .sha512sig1h) from rfl),
    encR_row 0x5E000033 .sha512sig1h rd rs1 rs2 (by decide) (by decide) (by decide) (by decide)⟩

theorem EncodesRow.sha512sig1l (rd rs1 rs2 : Reg) : EncodesRow.Statement (.sha512sig1l rd rs1 rs2) :=
  ⟨_, List.mem_of_getElem? (show decodeRows[13]? = some (rowR 0x56000033 .sha512sig1l) from rfl),
    encR_row 0x56000033 .sha512sig1l rd rs1 rs2 (by decide) (by decide) (by decide) (by decide)⟩

theorem EncodesRow.sha512sum0r (rd rs1 rs2 : Reg) : EncodesRow.Statement (.sha512sum0r rd rs1 rs2) :=
  ⟨_, List.mem_of_getElem? (show decodeRows[10]? = some (rowR 0x50000033 .sha512sum0r) from rfl),
    encR_row 0x50000033 .sha512sum0r rd rs1 rs2 (by decide) (by decide) (by decide) (by decide)⟩

theorem EncodesRow.sha512sum1r (rd rs1 rs2 : Reg) : EncodesRow.Statement (.sha512sum1r rd rs1 rs2) :=
  ⟨_, List.mem_of_getElem? (show decodeRows[11]? = some (rowR 0x52000033 .sha512sum1r) from rfl),
    encR_row 0x52000033 .sha512sum1r rd rs1 rs2 (by decide) (by decide) (by decide) (by decide)⟩

theorem EncodesRow.sha512sig0 (rd rs1 : Reg) : EncodesRow.Statement (.sha512sig0 rd rs1) :=
  ⟨_, List.mem_of_getElem? (show decodeRows[38]? = some (rowI 0x10601013 .sha512sig0) from rfl),
    encI_row 0x10601013 .sha512sig0 rd rs1 (by decide) (by decide) (by decide)⟩

theorem EncodesRow.sha512sig1 (rd rs1 : Reg) : EncodesRow.Statement (.sha512sig1 rd rs1) :=
  ⟨_, List.mem_of_getElem? (show decodeRows[39]? = some (rowI 0x10701013 .sha512sig1) from rfl),
    encI_row 0x10701013 .sha512sig1 rd rs1 (by decide) (by decide) (by decide)⟩

theorem EncodesRow.sha512sum0 (rd rs1 : Reg) : EncodesRow.Statement (.sha512sum0 rd rs1) :=
  ⟨_, List.mem_of_getElem? (show decodeRows[36]? = some (rowI 0x10401013 .sha512sum0) from rfl),
    encI_row 0x10401013 .sha512sum0 rd rs1 (by decide) (by decide) (by decide)⟩

theorem EncodesRow.sha512sum1 (rd rs1 : Reg) : EncodesRow.Statement (.sha512sum1 rd rs1) :=
  ⟨_, List.mem_of_getElem? (show decodeRows[37]? = some (rowI 0x10501013 .sha512sum1) from rfl),
    encI_row 0x10501013 .sha512sum1 rd rs1 (by decide) (by decide) (by decide)⟩

theorem EncodesRow.sm4ed (rd rs1 rs2 : Reg) (bs : BitVec 2) : EncodesRow.Statement (.sm4ed rd rs1 rs2 bs) :=
  ⟨_, List.mem_of_getElem? (show decodeRows[4]? = some (rowBs 0x30000033 .sm4ed) from rfl),
    encBs_row 0x30000033 .sm4ed rd rs1 rs2 bs (by decide) (by decide) (by decide) (by decide) (by decide)⟩

theorem EncodesRow.sm4ks (rd rs1 rs2 : Reg) (bs : BitVec 2) : EncodesRow.Statement (.sm4ks rd rs1 rs2 bs) :=
  ⟨_, List.mem_of_getElem? (show decodeRows[6]? = some (rowBs 0x34000033 .sm4ks) from rfl),
    encBs_row 0x34000033 .sm4ks rd rs1 rs2 bs (by decide) (by decide) (by decide) (by decide) (by decide)⟩

theorem EncodesRow.sm3p0 (rd rs1 : Reg) : EncodesRow.Statement (.sm3p0 rd rs1) :=
  ⟨_, List.mem_of_getElem? (show decodeRows[40]? = some (rowI 0x10801013 .sm3p0) from rfl),
    encI_row 0x10801013 .sm3p0 rd rs1 (by decide) (by decide) (by decide)⟩

theorem EncodesRow.sm3p1 (rd rs1 : Reg) : EncodesRow.Statement (.sm3p1 rd rs1) :=
  ⟨_, List.mem_of_getElem? (show decodeRows[41]? = some (rowI 0x10901013 .sm3p1) from rfl),
    encI_row 0x10901013 .sm3p1 rd rs1 (by decide) (by decide) (by decide)⟩

theorem EncodesRow.csrrw (rd : Reg) (csr : CsrAddr) (rs1 : Reg) : EncodesRow.Statement (.csrrw rd csr rs1) :=
  ⟨_, List.mem_of_getElem? (show decodeRows[51]? = some (rowCsr 0x00001073 .csrrw) from rfl),
    encCsr_row 0x00001073 .csrrw rd rs1 csr (by decide) (by decide) (by decide) (by decide)⟩

theorem EncodesRow.csrrs (rd : Reg) (csr : CsrAddr) (rs1 : Reg) : EncodesRow.Statement (.csrrs rd csr rs1) :=
  ⟨_, List.mem_of_getElem? (show decodeRows[52]? = some (rowCsr 0x00002073 .csrrs) from rfl),
    encCsr_row 0x00002073 .csrrs rd rs1 csr (by decide) (by decide) (by decide) (by decide)⟩

theorem EncodesRow.csrrc (rd : Reg) (csr : CsrAddr) (rs1 : Reg) : EncodesRow.Statement (.csrrc rd csr rs1) :=
  ⟨_, List.mem_of_getElem? (show decodeRows[53]? = some (rowCsr 0x00003073 .csrrc) from rfl),
    encCsr_row 0x00003073 .csrrc rd rs1 csr (by decide) (by decide) (by decide) (by decide)⟩

theorem EncodesRow.csrrwi (rd : Reg) (csr : CsrAddr) (uimm : BitVec 5) : EncodesRow.Statement (.csrrwi rd csr uimm) :=
  ⟨_, List.mem_of_getElem? (show decodeRows[54]? = some (rowCsr 0x00005073 .csrrwi) from rfl),
    encCsr_row 0x00005073 .csrrwi rd uimm csr (by decide) (by decide) (by decide) (by decide)⟩

theorem EncodesRow.csrrsi (rd : Reg) (csr : CsrAddr) (uimm : BitVec 5) : EncodesRow.Statement (.csrrsi rd csr uimm) :=
  ⟨_, List.mem_of_getElem? (show decodeRows[55]? = some (rowCsr 0x00006073 .csrrsi) from rfl),
    encCsr_row 0x00006073 .csrrsi rd uimm csr (by decide) (by decide) (by decide) (by decide)⟩

theorem EncodesRow.csrrci (rd : Reg) (csr : CsrAddr) (uimm : BitVec 5) : EncodesRow.Statement (.csrrci rd csr uimm) :=
  ⟨_, List.mem_of_getElem? (show decodeRows[56]? = some (rowCsr 0x00007073 .csrrci) from rfl),
    encCsr_row 0x00007073 .csrrci rd uimm csr (by decide) (by decide) (by decide) (by decide)⟩

end Sys2Proof.Laws
end

