-- ==== Sys2Proof/Laws/Seed.lean ====
section
/-! SUPPORT. The fields of the word a poll returns. -/

namespace Sys2Proof.Laws

open Sys2Proof.Machine

@[simp] theorem seedOpst_seedWord (o : Opst) (a : BitVec 14) (e : BitVec 16) :
    seedOpst (seedWord o a e) = o.code := by
  apply BitVec.eq_of_getLsbD_eq
  intro k hk
  have h1 : ¬ 30 + k < 16 := by omega
  have h2 : ¬ 30 + k - 16 < 14 := by omega
  have h3 : 30 + k - 16 - 14 = k := by omega
  simp only [seedOpst, seedWord, BitVec.getLsbD_extractLsb', BitVec.getLsbD_append, hk, h1, h2, h3,
    decide_true, Bool.true_and, if_false]

@[simp] theorem seedEntropy_seedWord (o : Opst) (a : BitVec 14) (e : BitVec 16) :
    seedEntropy (seedWord o a e) = e := by
  apply BitVec.eq_of_getLsbD_eq
  intro k hk
  simp only [seedEntropy, seedWord, BitVec.getLsbD_extractLsb', BitVec.getLsbD_append, hk,
    decide_true, Bool.true_and, if_true, Nat.zero_add]

@[simp] theorem seedReserved_seedWord (o : Opst) (a : BitVec 14) (e : BitVec 16) :
    seedReserved (seedWord o a e) = a.extractLsb' 8 6 := by
  apply BitVec.eq_of_getLsbD_eq
  intro k hk
  have h1 : ¬ 24 + k < 16 := by omega
  have h2 : 24 + k - 16 < 14 := by omega
  have h3 : 24 + k - 16 = 8 + k := by omega
  simp only [seedReserved, seedWord, BitVec.getLsbD_extractLsb', BitVec.getLsbD_append, hk, h1, h2,
    decide_true, Bool.true_and, if_true, if_false]
  rw [h3]

@[simp] theorem seedCustom_seedWord (o : Opst) (a : BitVec 14) (e : BitVec 16) :
    seedCustom (seedWord o a e) = a.extractLsb' 0 8 := by
  apply BitVec.eq_of_getLsbD_eq
  intro k hk
  have h1 : ¬ 16 + k < 16 := by omega
  have h2 : 16 + k - 16 < 14 := by omega
  have h3 : 16 + k - 16 = 0 + k := by omega
  simp only [seedCustom, seedWord, BitVec.getLsbD_extractLsb', BitVec.getLsbD_append, hk, h1, h2,
    decide_true, Bool.true_and, if_true, if_false]
  rw [h3]

/-- The status of a poll is one of the allowed ones. -/
theorem pollStatus_mem (c : Config) (es : EntropySource) (d : Draw) :
    pollStatus c es d ∈ allowedStatuses c.esKind es := by
  have hne : 0 < (allowedStatuses c.esKind es).length := by
    simp only [allowedStatuses]
    split
    · simp
    · split
      · simp
      · cases c.esKind <;> simp [EsKind.liveStatuses]
  simp only [pollStatus]
  rw [List.getD_eq_getElem _ _ (Nat.mod_lt _ hne)]
  exact List.getElem_mem _

end Sys2Proof.Laws
end

