-- ==== Sys2Proof/Machine/Asm.lean ====
section
/-! DEFINITION. Assembler syntax (spec/30_encoding.md R91) and the ABI names of spec/10_state.md R22. -/

namespace Sys2Proof.Machine

/-- `x<n>`. -/
def regName (r : Reg) : String := "x" ++ toString r.toNat

/-- The ABI names the source's examples use (R22). -/
def abiName (name : String) : Option Reg :=
  if name = "t0" then some 5
  else if name = "t1" then some 6
  else if name = "t2" then some 7
  else if name = "t3" then some 28
  else if name = "a0" then some 10
  else if name = "a1" then some 11
  else none

/-- The name of a CSR of this spec under a configuration, or its number. -/
def csrText (c : Config) (a : CsrAddr) : String :=
  match c.csrAt a with
  | some .seed => "seed"
  | some .mseccfg => "mseccfg"
  | some .mseccfgh => "mseccfgh"
  | some .mnoise => "mnoise"
  | none => toString a.toNat

/-- A mnemonic and its operands. -/
def asmLine (mnemonic : String) (operands : List String) : String :=
  mnemonic ++ " " ++ String.intercalate ", " operands

/-- The operands in the order destination, sources, immediate (R91). -/
def Instr.operandText (c : Config) : Instr → List String
  | .andn rd rs1 rs2 | .orn rd rs1 rs2 | .xnor rd rs1 rs2 | .rol rd rs1 rs2
  | .rolw rd rs1 rs2 | .ror rd rs1 rs2 | .rorw rd rs1 rs2 | .pack rd rs1 rs2
  | .packh rd rs1 rs2 | .packw rd rs1 rs2 | .clmul rd rs1 rs2 | .clmulh rd rs1 rs2
  | .xperm8 rd rs1 rs2 | .xperm4 rd rs1 rs2 | .aes64ds rd rs1 rs2 | .aes64dsm rd rs1 rs2
  | .aes64es rd rs1 rs2 | .aes64esm rd rs1 rs2 | .aes64ks2 rd rs1 rs2 | .sha512sig0h rd rs1 rs2
  | .sha512sig0l rd rs1 rs2 | .sha512sig1h rd rs1 rs2 | .sha512sig1l rd rs1 rs2 | .sha512sum0r rd rs1 rs2
  | .sha512sum1r rd rs1 rs2
    => [regName rd, regName rs1, regName rs2]
  | .roriRv32 rd rs1 shamt | .roriw rd rs1 shamt
    => [regName rd, regName rs1, toString shamt.toNat]
  | .roriRv64 rd rs1 shamt
    => [regName rd, regName rs1, toString shamt.toNat]
  | .brev8 rd rs1 | .rev8Rv32 rd rs1 | .rev8Rv64 rd rs1 | .zip rd rs1
  | .unzip rd rs1 | .aes64im rd rs1 | .sha256sig0 rd rs1 | .sha256sig1 rd rs1
  | .sha256sum0 rd rs1 | .sha256sum1 rd rs1 | .sha512sig0 rd rs1 | .sha512sig1 rd rs1
  | .sha512sum0 rd rs1 | .sha512sum1 rd rs1 | .sm3p0 rd rs1 | .sm3p1 rd rs1
    => [regName rd, regName rs1]
  | .aes32dsi rd rs1 rs2 bs | .aes32dsmi rd rs1 rs2 bs | .aes32esi rd rs1 rs2 bs | .aes32esmi rd rs1 rs2 bs
  | .sm4ed rd rs1 rs2 bs | .sm4ks rd rs1 rs2 bs
    => [regName rd, regName rs1, regName rs2, toString bs.toNat]
  | .aes64ks1i rd rs1 rnum
    => [regName rd, regName rs1, toString rnum.toNat]
  | .csrrw rd csr rs1 | .csrrs rd csr rs1 | .csrrc rd csr rs1
    => [regName rd, csrText c csr, regName rs1]
  | .csrrwi rd csr uimm | .csrrsi rd csr uimm | .csrrci rd csr uimm
    => [regName rd, csrText c csr, toString uimm.toNat]

/-- The assembler line of an instruction (R91). -/
def Instr.asm (c : Config) (i : Instr) : String :=
  asmLine i.mnemonic (Instr.operandText c i)

end Sys2Proof.Machine
end

