-- ==== Sys2Proof/Machine/Flags.lean ====
section
/-! DEFINITION. Flags: there are none (spec/10_state.md R25). -/

namespace Sys2Proof.Machine

/-- The flags of the machine: an empty type (R25). -/
inductive Flag where
deriving DecidableEq, Repr

/-- The "Flags written" entry of every instruction rule: none (R25). -/
def flagsWritten (_ : Instr) : List Flag :=
  []

end Sys2Proof.Machine
end

