-- ==== Sys2Proof/Tests/Slice0.lean ====
section
/-! SUPPORT. Tests of the model on fixed values, and a witness for every statement that has hypotheses.
Expected words and values are those of spec/30_encoding.md and spec/95_test_vectors.md (the vector's
number stands above the test), never the model's own answers. -/

namespace Sys2Proof.Tests

open Sys2Proof Sys2Proof.Machine

set_option Elab.async false

/-! ## Helpers -/

/-- A machine after reset with every extension, `a` in x11 and `b` in x12. -/
def machine (x : Xlen) (a b : XWord) : State :=
  .resetOf (tableConfig x) (((Vector.replicate 32 0).set 11 a).set 12 b) [] 0

/-- x10 after one step that runs a word, if the step completes and `pc` is 4 further. -/
def after (x : Xlen) (w : Nat) (a b : XWord) : Option XWord :=
  match step ((machine x a b).withFetchWord 32 w) with
  | .next t => if t.pc = 0x80000004 then some (t.readX 10) else none
  | _ => none

/-! ## Decoding: one word of every row, field by field (spec/30_encoding.md R72 to R84) -/

theorem test_decode_andn : decodeWord (tableConfig .rv64) 0b0100000_01100_01011_111_01010_0110011 =
    .instr (.andn 10 11 12) := by decide +kernel
theorem test_decode_orn : decodeWord (tableConfig .rv64) 0b0100000_01100_01011_110_01010_0110011 =
    .instr (.orn 10 11 12) := by decide +kernel
theorem test_decode_xnor : decodeWord (tableConfig .rv64) 0b0100000_01100_01011_100_01010_0110011 =
    .instr (.xnor 10 11 12) := by decide +kernel
theorem test_decode_rol : decodeWord (tableConfig .rv64) 0b0110000_01100_01011_001_01010_0110011 =
    .instr (.rol 10 11 12) := by decide +kernel
theorem test_decode_rolw : decodeWord (tableConfig .rv64) 0b0110000_01100_01011_001_01010_0111011 =
    .instr (.rolw 10 11 12) := by decide +kernel
theorem test_decode_ror : decodeWord (tableConfig .rv64) 0b0110000_01100_01011_101_01010_0110011 =
    .instr (.ror 10 11 12) := by decide +kernel
theorem test_decode_roriRv32 : decodeWord (tableConfig .rv32) 0b0110000_11111_01011_101_01010_0010011 =
    .instr (.roriRv32 10 11 31) := by decide +kernel
theorem test_decode_roriRv64 : decodeWord (tableConfig .rv64) 0b011000_100100_01011_101_01010_0010011 =
    .instr (.roriRv64 10 11 36) := by decide +kernel
theorem test_decode_roriw : decodeWord (tableConfig .rv64) 0b0110000_11111_01011_101_01010_0011011 =
    .instr (.roriw 10 11 31) := by decide +kernel
theorem test_decode_rorw : decodeWord (tableConfig .rv64) 0b0110000_01100_01011_101_01010_0111011 =
    .instr (.rorw 10 11 12) := by decide +kernel
theorem test_decode_pack : decodeWord (tableConfig .rv64) 0b0000100_01100_01011_100_01010_0110011 =
    .instr (.pack 10 11 12) := by decide +kernel
theorem test_decode_packh : decodeWord (tableConfig .rv64) 0b0000100_01100_01011_111_01010_0110011 =
    .instr (.packh 10 11 12) := by decide +kernel
theorem test_decode_packw : decodeWord (tableConfig .rv64) 0b0000100_01100_01011_100_01010_0111011 =
    .instr (.packw 10 11 12) := by decide +kernel
theorem test_decode_brev8 : decodeWord (tableConfig .rv64) 0b011010000111_01011_101_01010_0010011 =
    .instr (.brev8 10 11) := by decide +kernel
theorem test_decode_rev8Rv32 : decodeWord (tableConfig .rv32) 0b011010011000_01011_101_01010_0010011 =
    .instr (.rev8Rv32 10 11) := by decide +kernel
theorem test_decode_rev8Rv64 : decodeWord (tableConfig .rv64) 0b011010111000_01011_101_01010_0010011 =
    .instr (.rev8Rv64 10 11) := by decide +kernel
theorem test_decode_zip : decodeWord (tableConfig .rv32) 0b000010001111_01011_001_01010_0010011 =
    .instr (.zip 10 11) := by decide +kernel
theorem test_decode_unzip : decodeWord (tableConfig .rv32) 0b000010001111_01011_101_01010_0010011 =
    .instr (.unzip 10 11) := by decide +kernel
theorem test_decode_clmul : decodeWord (tableConfig .rv64) 0b0000101_01100_01011_001_01010_0110011 =
    .instr (.clmul 10 11 12) := by decide +kernel
theorem test_decode_clmulh : decodeWord (tableConfig .rv64) 0b0000101_01100_01011_011_01010_0110011 =
    .instr (.clmulh 10 11 12) := by decide +kernel
theorem test_decode_xperm8 : decodeWord (tableConfig .rv64) 0b0010100_01100_01011_100_01010_0110011 =
    .instr (.xperm8 10 11 12) := by decide +kernel
theorem test_decode_xperm4 : decodeWord (tableConfig .rv64) 0b0010100_01100_01011_010_01010_0110011 =
    .instr (.xperm4 10 11 12) := by decide +kernel
theorem test_decode_aes32dsi : decodeWord (tableConfig .rv32) 0b01_10101_01100_01011_000_01010_0110011 =
    .instr (.aes32dsi 10 11 12 1) := by decide +kernel
theorem test_decode_aes32dsmi : decodeWord (tableConfig .rv32) 0b01_10111_01100_01011_000_01010_0110011 =
    .instr (.aes32dsmi 10 11 12 1) := by decide +kernel
theorem test_decode_aes32esi : decodeWord (tableConfig .rv32) 0b01_10001_01100_01011_000_01010_0110011 =
    .instr (.aes32esi 10 11 12 1) := by decide +kernel
theorem test_decode_aes32esmi : decodeWord (tableConfig .rv32) 0b01_10011_01100_01011_000_01010_0110011 =
    .instr (.aes32esmi 10 11 12 1) := by decide +kernel
theorem test_decode_aes64ds : decodeWord (tableConfig .rv64) 0b0011101_01100_01011_000_01010_0110011 =
    .instr (.aes64ds 10 11 12) := by decide +kernel
theorem test_decode_aes64dsm : decodeWord (tableConfig .rv64) 0b0011111_01100_01011_000_01010_0110011 =
    .instr (.aes64dsm 10 11 12) := by decide +kernel
theorem test_decode_aes64es : decodeWord (tableConfig .rv64) 0b0011001_01100_01011_000_01010_0110011 =
    .instr (.aes64es 10 11 12) := by decide +kernel
theorem test_decode_aes64esm : decodeWord (tableConfig .rv64) 0b0011011_01100_01011_000_01010_0110011 =
    .instr (.aes64esm 10 11 12) := by decide +kernel
theorem test_decode_aes64im : decodeWord (tableConfig .rv64) 0b001100000000_01011_001_01010_0010011 =
    .instr (.aes64im 10 11) := by decide +kernel
theorem test_decode_aes64ks1i : decodeWord (tableConfig .rv64) 0b00110001_1010_01011_001_01010_0010011 =
    .instr (.aes64ks1i 10 11 10) := by decide +kernel
theorem test_decode_aes64ks2 : decodeWord (tableConfig .rv64) 0b0111111_01100_01011_000_01010_0110011 =
    .instr (.aes64ks2 10 11 12) := by decide +kernel
theorem test_decode_sha256sig0 : decodeWord (tableConfig .rv64) 0b000100000010_01011_001_01010_0010011 =
    .instr (.sha256sig0 10 11) := by decide +kernel
theorem test_decode_sha256sig1 : decodeWord (tableConfig .rv64) 0b000100000011_01011_001_01010_0010011 =
    .instr (.sha256sig1 10 11) := by decide +kernel
theorem test_decode_sha256sum0 : decodeWord (tableConfig .rv64) 0b000100000000_01011_001_01010_0010011 =
    .instr (.sha256sum0 10 11) := by decide +kernel
theorem test_decode_sha256sum1 : decodeWord (tableConfig .rv64) 0b000100000001_01011_001_01010_0010011 =
    .instr (.sha256sum1 10 11) := by decide +kernel
theorem test_decode_sha512sig0h : decodeWord (tableConfig .rv32) 0b0101110_01100_01011_000_01010_0110011 =
    .instr (.sha512sig0h 10 11 12) := by decide +kernel
theorem test_decode_sha512sig0l : decodeWord (tableConfig .rv32) 0b0101010_01100_01011_000_01010_0110011 =
    .instr (.sha512sig0l 10 11 12) := by decide +kernel
theorem test_decode_sha512sig1h : decodeWord (tableConfig .rv32) 0b0101111_01100_01011_000_01010_0110011 =
    .instr (.sha512sig1h 10 11 12) := by decide +kernel
theorem test_decode_sha512sig1l : decodeWord (tableConfig .rv32) 0b0101011_01100_01011_000_01010_0110011 =
    .instr (.sha512sig1l 10 11 12) := by decide +kernel
theorem test_decode_sha512sum0r : decodeWord (tableConfig .rv32) 0b0101000_01100_01011_000_01010_0110011 =
    .instr (.sha512sum0r 10 11 12) := by decide +kernel
theorem test_decode_sha512sum1r : decodeWord (tableConfig .rv32) 0b0101001_01100_01011_000_01010_0110011 =
    .instr (.sha512sum1r 10 11 12) := by decide +kernel
theorem test_decode_sha512sig0 : decodeWord (tableConfig .rv64) 0b000100000110_01011_001_01010_0010011 =
    .instr (.sha512sig0 10 11) := by decide +kernel
theorem test_decode_sha512sig1 : decodeWord (tableConfig .rv64) 0b000100000111_01011_001_01010_0010011 =
    .instr (.sha512sig1 10 11) := by decide +kernel
theorem test_decode_sha512sum0 : decodeWord (tableConfig .rv64) 0b000100000100_01011_001_01010_0010011 =
    .instr (.sha512sum0 10 11) := by decide +kernel
theorem test_decode_sha512sum1 : decodeWord (tableConfig .rv64) 0b000100000101_01011_001_01010_0010011 =
    .instr (.sha512sum1 10 11) := by decide +kernel
theorem test_decode_sm4ed : decodeWord (tableConfig .rv32) 0b01_11000_01100_01011_000_01010_0110011 =
    .instr (.sm4ed 10 11 12 1) := by decide +kernel
theorem test_decode_sm4ks : decodeWord (tableConfig .rv32) 0b01_11010_01100_01011_000_01010_0110011 =
    .instr (.sm4ks 10 11 12 1) := by decide +kernel
theorem test_decode_sm3p0 : decodeWord (tableConfig .rv64) 0b000100001000_01011_001_01010_0010011 =
    .instr (.sm3p0 10 11) := by decide +kernel
theorem test_decode_sm3p1 : decodeWord (tableConfig .rv64) 0b000100001001_01011_001_01010_0010011 =
    .instr (.sm3p1 10 11) := by decide +kernel
theorem test_decode_csrrw : decodeWord (tableConfig .rv64) 0b000000010101_00101_001_01010_1110011 =
    .instr (.csrrw 10 0x015 5) := by decide +kernel
theorem test_decode_csrrs : decodeWord (tableConfig .rv64) 0b000000010101_00101_010_01010_1110011 =
    .instr (.csrrs 10 0x015 5) := by decide +kernel
theorem test_decode_csrrc : decodeWord (tableConfig .rv64) 0b000000010101_00101_011_01010_1110011 =
    .instr (.csrrc 10 0x015 5) := by decide +kernel
theorem test_decode_csrrwi : decodeWord (tableConfig .rv64) 0b000000010101_00101_101_01010_1110011 =
    .instr (.csrrwi 10 0x015 5) := by decide +kernel
theorem test_decode_csrrsi : decodeWord (tableConfig .rv64) 0b000000010101_00101_110_01010_1110011 =
    .instr (.csrrsi 10 0x015 5) := by decide +kernel
theorem test_decode_csrrci : decodeWord (tableConfig .rv64) 0b000000010101_00101_111_01010_1110011 =
    .instr (.csrrci 10 0x015 5) := by decide +kernel

/-! ## One step each, from the vectors of spec/95_test_vectors.md -/

/-- V4. -/
theorem test_andn_V4 : after .rv32 0x4005F533 0x12345678 0 =
    some 0x12345678 := by decide +kernel
/-- V2. -/
theorem test_andn_V2 : after .rv64 0x40C5F533 0x0123456789ABCDEF 0x00FF00FF0F0F0F0F =
    some 0x0100450080A0C0E0 := by decide +kernel
/-- V8. -/
theorem test_orn_V8 : after .rv32 0x4005E533 0x12345678 0 =
    some 0xFFFFFFFF := by decide +kernel
/-- V6. -/
theorem test_orn_V6 : after .rv64 0x40C5E533 0x0123456789ABCDEF 0x00FF00FF0F0F0F0F =
    some 0xFF23FF67F9FBFDFF := by decide +kernel
/-- V12. -/
theorem test_xnor_V12 : after .rv32 0x4005C533 0x12345678 0 =
    some 0xEDCBA987 := by decide +kernel
/-- V10. -/
theorem test_xnor_V10 : after .rv64 0x40C5C533 0x0123456789ABCDEF 0x00FF00FF0F0F0F0F =
    some 0xFE23BA67795B3D1F := by decide +kernel
/-- V16. -/
theorem test_rol_V16 : after .rv32 0x60C59533 0x12345678 0x00000024 =
    some 0x23456781 := by decide +kernel
/-- V19. -/
theorem test_rol_V19 : after .rv64 0x60C59533 0x0123456789ABCDEF 0x0000000000000044 =
    some 0x123456789ABCDEF0 := by decide +kernel
/-- V21. -/
theorem test_rolw_V21 : after .rv64 0x60C5953B 0x0123456789ABCDEF 0x0000000000000001 =
    some 0x0000000013579BDF := by decide +kernel
/-- V22. -/
theorem test_rolw_V22 : after .rv64 0x60C5953B 0x0123456789ABCDEF 0x0000000000000008 =
    some 0xFFFFFFFFABCDEF89 := by decide +kernel
/-- V27. -/
theorem test_ror_V27 : after .rv32 0x60C5D533 0x12345678 0x00000020 =
    some 0x12345678 := by decide +kernel
/-- V30. -/
theorem test_ror_V30 : after .rv64 0x60C5D533 0x0123456789ABCDEF 0x0000000000000040 =
    some 0x0123456789ABCDEF := by decide +kernel
/-- V31. -/
theorem test_roriRv32_V31 : after .rv32 0x60C5D513 0x12345678 0 =
    some 0x67812345 := by decide +kernel
/-- V32. -/
theorem test_roriRv32_V32 : after .rv32 0x6005D513 0x12345678 0 =
    some 0x12345678 := by decide +kernel
/-- V34. -/
theorem test_roriRv64_V34 : after .rv64 0x6245D513 0x0123456789ABCDEF 0 =
    some 0x789ABCDEF0123456 := by decide +kernel
/-- V35. -/
theorem test_roriRv64_V35 : after .rv64 0x6205D513 0x0123456789ABCDEF 0 =
    some 0x89ABCDEF01234567 := by decide +kernel
/-- V38. -/
theorem test_roriw_V38 : after .rv64 0x6045D51B 0x0123456789ABCDEF 0 =
    some 0xFFFFFFFFF89ABCDE := by decide +kernel
/-- V39. -/
theorem test_roriw_V39 : after .rv64 0x6005D51B 0x0000000080000000 0 =
    some 0xFFFFFFFF80000000 := by decide +kernel
/-- V41. -/
theorem test_rorw_V41 : after .rv64 0x60C5D53B 0x0123456789ABCDEF 0x0000000000000001 =
    some 0xFFFFFFFFC4D5E6F7 := by decide +kernel
/-- V42. -/
theorem test_rorw_V42 : after .rv64 0x60C5D53B 0x0123456789ABCDEF 0x0000000000000008 =
    some 0xFFFFFFFFEF89ABCD := by decide +kernel
/-- V45. -/
theorem test_pack_V45 : after .rv32 0x08C5C533 0x12345678 0x9ABCDEF0 =
    some 0xDEF05678 := by decide +kernel
/-- V47. -/
theorem test_pack_V47 : after .rv64 0x0805C533 0x0123456789ABCDEF 0 =
    some 0x0000000089ABCDEF := by decide +kernel
/-- V48. -/
theorem test_packh_V48 : after .rv32 0x08C5F533 0x12345678 0x9ABCDEF0 =
    some 0x0000F078 := by decide +kernel
/-- V49. -/
theorem test_packh_V49 : after .rv64 0x08C5F533 0x0123456789ABCDEF 0x00FF00FF0F0F0F0F =
    some 0x0000000000000FEF := by decide +kernel
/-- V50. -/
theorem test_packw_V50 : after .rv64 0x08C5C53B 0x0123456789ABCDEF 0x00FF00FF0F0F0F0F =
    some 0x000000000F0FCDEF := by decide +kernel
/-- V51. -/
theorem test_packw_V51 : after .rv64 0x08C5C53B 0x1111111111118000 0x222222222222FFFF =
    some 0xFFFFFFFFFFFF8000 := by decide +kernel
/-- V54. -/
theorem test_brev8_V54 : after .rv32 0x6875D513 0x80FF0100 0 =
    some 0x01FF8000 := by decide +kernel
/-- V55. -/
theorem test_brev8_V55 : after .rv64 0x6875D513 0x0123456789ABCDEF 0 =
    some 0x80C4A2E691D5B3F7 := by decide +kernel
/-- V56. -/
theorem test_rev8Rv32_V56 : after .rv32 0x6985D513 0x12345678 0 =
    some 0x78563412 := by decide +kernel
/-- V57. -/
theorem test_rev8Rv64_V57 : after .rv64 0x6B85D513 0x0123456789ABCDEF 0 =
    some 0xEFCDAB8967452301 := by decide +kernel
/-- V58. -/
theorem test_zip_V58 : after .rv32 0x08F59513 0x0000FFFF 0 =
    some 0x55555555 := by decide +kernel
/-- V59. -/
theorem test_zip_V59 : after .rv32 0x08F59513 0xFFFF0000 0 =
    some 0xAAAAAAAA := by decide +kernel
/-- V63. -/
theorem test_unzip_V63 : after .rv32 0x08F5D513 0x55555555 0 =
    some 0x0000FFFF := by decide +kernel
/-- V64. -/
theorem test_unzip_V64 : after .rv32 0x08F5D513 0xAAAAAAAA 0 =
    some 0xFFFF0000 := by decide +kernel
/-- V78. -/
theorem test_clmul_V78 : after .rv32 0x0AC59533 0x12345678 0x00000001 =
    some 0x12345678 := by decide +kernel
/-- V80. -/
theorem test_clmul_V80 : after .rv64 0x0AC59533 0x0123456789ABCDEF 0xFEDCBA9876543210 =
    some 0x40A0789828C810F0 := by decide +kernel
/-- V79. -/
theorem test_clmulh_V79 : after .rv32 0x0AC5B533 0x12345678 0x00000001 =
    some 0x00000000 := by decide +kernel
/-- V81. -/
theorem test_clmulh_V81 : after .rv64 0x0AC5B533 0x0123456789ABCDEF 0xFEDCBA9876543210 =
    some 0x00E038D8688850B0 := by decide +kernel
/-- V86. -/
theorem test_xperm8_V86 : after .rv32 0x28C5C533 0xDDCCBBAA 0xFF800403 =
    some 0x000000DD := by decide +kernel
/-- V87. -/
theorem test_xperm8_V87 : after .rv64 0x28C5C533 0x8877665544332211 0x0001020304050607 =
    some 0x1122334455667788 := by decide +kernel
/-- V92. -/
theorem test_xperm4_V92 : after .rv32 0x28C5A533 0x76543210 0x89ABCDEF =
    some 0x00000000 := by decide +kernel
/-- V94. -/
theorem test_xperm4_V94 : after .rv64 0x28C5A533 0x0123456789ABCDEF 0x00000000FFFF0F10 =
    some 0xFFFFFFFF0000F0EF := by decide +kernel
/-- V96. -/
theorem test_aes32dsi_V96 : after .rv32 0x6AC58533 0x12345678 0x9ABCDEF0 =
    some 0x1234CA78 := by decide +kernel
/-- V98. -/
theorem test_aes32dsi_V98 : after .rv32 0xEAC58533 0x12345678 0x9ABCDEF0 =
    some 0x25345678 := by decide +kernel
/-- V102. -/
theorem test_aes32dsmi_V102 : after .rv32 0x6EC58533 0x12345678 0x9ABCDEF0 =
    some 0x4424BF4B := by decide +kernel
/-- V104. -/
theorem test_aes32dsmi_V104 : after .rv32 0xEEC58533 0x12345678 0x9ABCDEF0 =
    some 0x03CE1EEC := by decide +kernel
/-- V110. -/
theorem test_aes32esi_V110 : after .rv32 0x62C58533 0x12345678 0x9ABCDEF0 =
    some 0x12344B78 := by decide +kernel
/-- V112. -/
theorem test_aes32esi_V112 : after .rv32 0xE2C58533 0x12345678 0x9ABCDEF0 =
    some 0xAA345678 := by decide +kernel
/-- V116. -/
theorem test_aes32esmi_V116 : after .rv32 0x66C58533 0x12345678 0x9ABCDEF0 =
    some 0x0F296C5F := by decide +kernel
/-- V118. -/
theorem test_aes32esmi_V118 : after .rv32 0xE6C58533 0x12345678 0x9ABCDEF0 =
    some 0x79E7EEC0 := by decide +kernel
/-- V124. -/
theorem test_aes64ds_V124 : after .rv64 0x3AC58533 0x0123456789ABCDEF 0xFEDCBA9876543210 =
    some 0x0F93800A09FDC061 := by decide +kernel
/-- V125. -/
theorem test_aes64ds_V125 : after .rv64 0x3AC58533 0xFEDCBA9876543210 0x0123456789ABCDEF =
    some 0xF232A1E20C0E687C := by decide +kernel
/-- V127. -/
theorem test_aes64dsm_V127 : after .rv64 0x3EC58533 0x0123456789ABCDEF 0xFEDCBA9876543210 =
    some 0xA9440AF11B8378B5 := by decide +kernel
/-- V128. -/
theorem test_aes64dsm_V128 : after .rv64 0x3EC58533 0xFEDCBA9876543210 0x0123456789ABCDEF =
    some 0x72333CFEC17F8921 := by decide +kernel
/-- V130. -/
theorem test_aes64es_V130 : after .rv64 0x32C58533 0x0123456789ABCDEF 0xFEDCBA9876543210 =
    some 0xA7862385BB206EDF := by decide +kernel
/-- V131. -/
theorem test_aes64es_V131 : after .rv64 0x32C58533 0xFEDCBA9876543210 0x0123456789ABCDEF =
    some 0x3826BD467C62F4CA := by decide +kernel
/-- V133. -/
theorem test_aes64esm_V133 : after .rv64 0x36C58533 0x0123456789ABCDEF 0xFEDCBA9876543210 =
    some 0x6443F5555927D88C := by decide +kernel
/-- V134. -/
theorem test_aes64esm_V134 : after .rv64 0x36C58533 0xFEDCBA9876543210 0x0123456789ABCDEF =
    some 0x21FF754E2B7EE396 := by decide +kernel
/-- V136. -/
theorem test_aes64im_V136 : after .rv64 0x30059513 0x0123456789ABCDEF 0 =
    some 0xC66C82284EE40AA0 := by decide +kernel
/-- V137. -/
theorem test_aes64im_V137 : after .rv64 0x30059513 0x21DCFA19F36677AC 0 =
    some 0xFEEA1913635A7B0C := by decide +kernel
/-- V147. -/
theorem test_aes64ks1i_V147 : after .rv64 0x31859513 0x0123456789ABCDEF 0 =
    some 0x857C2675857C2675 := by decide +kernel
/-- V149. -/
theorem test_aes64ks1i_V149 : after .rv64 0x31A59513 0x0123456789ABCDEF 0 =
    some 0x7C266E857C266E85 := by decide +kernel
/-- V150. -/
theorem test_aes64ks2_V150 : after .rv64 0x7EC58533 0x0123456789ABCDEF 0xFEDCBA9876543210 =
    some 0x89ABCDEF77777777 := by decide +kernel
/-- V153. -/
theorem test_sha256sig0_V153 : after .rv32 0x10259513 0x80000000 0 =
    some 0x11002000 := by decide +kernel
/-- V154. -/
theorem test_sha256sig0_V154 : after .rv64 0x10259513 0xFFFFFFFF12345678 0 =
    some 0xFFFFFFFFE7FCE6EE := by decide +kernel
/-- V158. -/
theorem test_sha256sig1_V158 : after .rv32 0x10359513 0x80000000 0 =
    some 0x00205000 := by decide +kernel
/-- V159. -/
theorem test_sha256sig1_V159 : after .rv64 0x10359513 0xFFFFFFFF12345678 0 =
    some 0xFFFFFFFFA1F78649 := by decide +kernel
/-- V163. -/
theorem test_sha256sum0_V163 : after .rv32 0x10059513 0x80000000 0 =
    some 0x20040200 := by decide +kernel
/-- V164. -/
theorem test_sha256sum0_V164 : after .rv64 0x10059513 0xFFFFFFFF12345678 0 =
    some 0x0000000066146474 := by decide +kernel
/-- V168. -/
theorem test_sha256sum1_V168 : after .rv32 0x10159513 0x80000000 0 =
    some 0x02100040 := by decide +kernel
/-- V169. -/
theorem test_sha256sum1_V169 : after .rv64 0x10159513 0xFFFFFFFF12345678 0 =
    some 0x000000003561ABDA := by decide +kernel
/-- V172. -/
theorem test_sha512sig0h_V172 : after .rv32 0x5CC58533 0x01234567 0x89ABCDEF =
    some 0x6F92C77C := by decide +kernel
/-- V183. -/
theorem test_sha512sig0h_V183 : after .rv32 0x5CC58533 0x00000001 0x00000000 =
    some 0x00000000 := by decide +kernel
/-- V171. -/
theorem test_sha512sig0l_V171 : after .rv32 0x54C58533 0x89ABCDEF 0x01234567 =
    some 0x6C4F1AA1 := by decide +kernel
/-- V179. -/
theorem test_sha512sig0l_V179 : after .rv32 0x54C58533 0x00000001 0x00000000 =
    some 0x00000000 := by decide +kernel
/-- V174. -/
theorem test_sha512sig1h_V174 : after .rv32 0x5EC58533 0x01234567 0x89ABCDEF =
    some 0x70A3460D := by decide +kernel
/-- V191. -/
theorem test_sha512sig1h_V191 : after .rv32 0x5EC58533 0x00000001 0x00000000 =
    some 0x00000008 := by decide +kernel
/-- V173. -/
theorem test_sha512sig1l_V173 : after .rv32 0x56C58533 0x89ABCDEF 0x01234567 =
    some 0xBBD4317A := by decide +kernel
/-- V187. -/
theorem test_sha512sig1l_V187 : after .rv32 0x56C58533 0x00000001 0x00000000 =
    some 0x00000008 := by decide +kernel
/-- V175. -/
theorem test_sha512sum0r_V175 : after .rv32 0x50C58533 0x89ABCDEF 0x01234567 =
    some 0x0C7EC1AB := by decide +kernel
/-- V176. -/
theorem test_sha512sum0r_V176 : after .rv32 0x50C58533 0x01234567 0x89ABCDEF =
    some 0xB7C57A10 := by decide +kernel
/-- V177. -/
theorem test_sha512sum1r_V177 : after .rv32 0x52C58533 0x89ABCDEF 0x01234567 =
    some 0x33475567 := by decide +kernel
/-- V178. -/
theorem test_sha512sum1r_V178 : after .rv32 0x52C58533 0x01234567 0x89ABCDEF =
    some 0x77031123 := by decide +kernel
/-- V203. -/
theorem test_sha512sig0_V203 : after .rv64 0x10659513 0x0123456789ABCDEF 0 =
    some 0x6F92C77C6C4F1AA1 := by decide +kernel
/-- V204. -/
theorem test_sha512sig0_V204 : after .rv64 0x10659513 0x0000000000000001 0 =
    some 0x8100000000000000 := by decide +kernel
/-- V207. -/
theorem test_sha512sig1_V207 : after .rv64 0x10759513 0x0123456789ABCDEF 0 =
    some 0x70A3460DBBD4317A := by decide +kernel
/-- V208. -/
theorem test_sha512sig1_V208 : after .rv64 0x10759513 0x0000000000000001 0 =
    some 0x0000200000000008 := by decide +kernel
/-- V211. -/
theorem test_sha512sum0_V211 : after .rv64 0x10459513 0x0123456789ABCDEF 0 =
    some 0xB7C57A100C7EC1AB := by decide +kernel
/-- V212. -/
theorem test_sha512sum0_V212 : after .rv64 0x10459513 0x0000000000000001 0 =
    some 0x0000001042000000 := by decide +kernel
/-- V215. -/
theorem test_sha512sum1_V215 : after .rv64 0x10559513 0x0123456789ABCDEF 0 =
    some 0x7703112333475567 := by decide +kernel
/-- V216. -/
theorem test_sha512sum1_V216 : after .rv64 0x10559513 0x0000000000000001 0 =
    some 0x0004400000800000 := by decide +kernel
/-- V220. -/
theorem test_sm4ed_V220 : after .rv32 0x70C58533 0x12345678 0x9ABCDEF0 =
    some 0xC08232AA := by decide +kernel
/-- V227. -/
theorem test_sm4ed_V227 : after .rv64 0xF0C58533 0xFFFFFFFF12345678 0xAAAAAAAA9ABCDEF0 =
    some 0xFFFFFFFFE8FC9E4A := by decide +kernel
/-- V224. -/
theorem test_sm4ks_V224 : after .rv32 0x74C58533 0x12345678 0x9ABCDEF0 =
    some 0x046EE2F8 := by decide +kernel
/-- V228. -/
theorem test_sm4ks_V228 : after .rv64 0x34C58533 0x0000000012345678 0x000000009ABCDEF0 =
    some 0x0000000012375A60 := by decide +kernel
/-- V238. -/
theorem test_sm3p0_V238 : after .rv32 0x10859513 0x00000000 0 =
    some 0x00000000 := by decide +kernel
/-- V245. -/
theorem test_sm3p0_V245 : after .rv64 0x10859513 0xFFFFFFFF80000000 0 =
    some 0xFFFFFFFF80010100 := by decide +kernel
/-- V244. -/
theorem test_sm3p1_V244 : after .rv32 0x10959513 0x00000000 0 =
    some 0x00000000 := by decide +kernel
/-- V246. -/
theorem test_sm3p1_V246 : after .rv64 0x10959513 0x0000000080000000 0 =
    some 0xFFFFFFFF80404000 := by decide +kernel

/-! ## Well-formedness: each check refuses an ill-formed term -/

/-- Zbkb alone, on RV32. -/
def zbkbOnly : Config :=
  { tableConfig .rv32 with ext := .ofList [.zbkb] }

theorem test_wellFormed_refuses_rv32_form_on_rv64 :
    (Instr.zip 10 11).wellFormed (tableConfig .rv64) = false := by decide +kernel
theorem test_wellFormed_refuses_rv64_form_on_rv32 :
    (Instr.aes64es 10 11 12).wellFormed (tableConfig .rv32) = false := by decide +kernel
theorem test_wellFormed_refuses_absent_extension :
    (Instr.clmul 10 11 12).wellFormed zbkbOnly = false := by decide +kernel
theorem test_wellFormed_refuses_rnum_11 :
    (Instr.aes64ks1i 10 11 11).wellFormed (tableConfig .rv64) = false := by decide +kernel
theorem test_wellFormed_takes_rnum_10 :
    (Instr.aes64ks1i 10 11 10).wellFormed (tableConfig .rv64) = true := by decide +kernel
theorem test_wellFormed_refuses_seed_without_zkr :
    (Instr.csrrw 10 0x015 0).wellFormed zbkbOnly = false := by decide +kernel
theorem test_wellFormed_refuses_absent_csr :
    (Instr.csrrs 10 0x300 0).wellFormed (tableConfig .rv64) = false := by decide +kernel

/-! ## Decoding: words that are no instruction, by name -/

theorem test_reject_reserved_shamt : decodeWord (tableConfig .rv32) 0x6245D513 =
    .rejected .reservedShamt := by decide +kernel
/-- Without Zbkb no `rori` is there to reserve the pattern (R86, R90). -/
theorem test_reject_rori_without_zbkb :
    decodeWord { tableConfig .rv32 with ext := .ofList [.zbkc] } 0x6245D513 =
    .rejected .otherXlen := by decide +kernel
theorem test_reject_reserved_rnum : decodeWord (tableConfig .rv64) 0x31B59513 =
    .rejected .reservedRnum := by decide +kernel
theorem test_reject_other_xlen : decodeWord (tableConfig .rv64) 0x08F59513 =
    .rejected .otherXlen := by decide +kernel
theorem test_reject_absent_extension : decodeWord zbkbOnly 0x0AC59533 =
    .rejected .extensionAbsent := by decide +kernel
theorem test_reject_absent_csr : decodeWord (tableConfig .rv64) 0x30001573 =
    .rejected .absentCsr := by decide +kernel
theorem test_reject_unassigned : decodeWord (tableConfig .rv64) 0x00000013 =
    .rejected .unassigned := by decide +kernel
theorem test_reject_three_bytes : decode (tableConfig .rv64) [0x33, 0xF5, 0xC5] =
    .rejected .truncated := by decide +kernel

/-! ## The exception vectors E1 to E38, one step each -/

/-- A state with this word at `pc`. -/
def atPc (s : State) (w : Word32) : State :=
  State.writeBytes s s.pc 0 (bytesOfWord w)

/-- All extensions and the hypervisor extension. -/
def hConfig : Config :=
  { tableConfig .rv64 with hasH := true }

/-- A machine of a configuration in a mode, with the two access bits. -/
def inState (c : Config) (p : Priv) (v a b : Bool) : State :=
  { State.resetOf c (Vector.replicate 32 0) [] 0 with priv := p, virt := v, sseed := a, useed := b }

/-- The exception the next step raises with this word at `pc`, if the trap records `pc` and the word. -/
def raised (s : State) (w : Word32) : Option Exception :=
  match step (atPc s w) with
  | .fault (.trap t) => if t.pc = s.pc ∧ t.inst = w then some t.cause else none
  | _ => none

/-- An outcome is a next state. -/
def isNext (o : Host.Outcome State Fault Refusal) : Bool :=
  match o with
  | .next _ => true
  | .fault _ => false
  | .refused _ => false

theorem test_E1 : raised (machine .rv64 0 0) 0x31B59513 = some .illegalInstruction := by decide +kernel
theorem test_E5 : raised (machine .rv64 0 0) 0x31F59513 = some .illegalInstruction := by decide +kernel
theorem test_E7 : raised (machine .rv32 0 0) 0x6245D513 = some .illegalInstruction := by decide +kernel
theorem test_E9 : raised (machine .rv32 0 0) 0x32C58533 = some .illegalInstruction := by decide +kernel
theorem test_E10 : raised (machine .rv64 0 0) 0xA2C58533 = some .illegalInstruction := by decide +kernel
theorem test_E14 : raised (inState zbkbOnly .m false false false) 0x0AC59533 =
    some .illegalInstruction := by decide +kernel
theorem test_E16 : raised (inState zbkbOnly .m false false false) 0x09E59513 =
    some .illegalInstruction := by decide +kernel
theorem test_E17 : raised (machine .rv32 0 0) 0x6995D513 = some .illegalInstruction := by decide +kernel
theorem test_E18 : raised (machine .rv64 0 0) 0x01502573 = some .illegalInstruction := by decide +kernel
theorem test_E19 : raised (machine .rv64 0 0) 0x01503573 = some .illegalInstruction := by decide +kernel
theorem test_E20 : raised (machine .rv32 0 0) 0x01506573 = some .illegalInstruction := by decide +kernel
theorem test_E21 : raised (machine .rv64 0 0) 0x01507573 = some .illegalInstruction := by decide +kernel
theorem test_E22 : isNext (step (atPc (machine .rv64 0 0) 0x01501573)) = true := by decide +kernel
theorem test_E23 : isNext (step (atPc (machine .rv32 0 0) 0x0152A573)) = true := by decide +kernel
theorem test_E24 : raised (inState hConfig .s false false true) 0x01501573 =
    some .illegalInstruction := by decide +kernel
theorem test_E25 : isNext (step (atPc (inState hConfig .s false true false) 0x01501573)) = true := by
  decide +kernel
theorem test_E26 : raised (inState hConfig .u false true false) 0x01501573 =
    some .illegalInstruction := by decide +kernel
theorem test_E27 : isNext (step (atPc (inState hConfig .u false false true) 0x01501573)) = true := by
  decide +kernel
theorem test_E28 : raised (inState hConfig .u false false true) 0x01502573 =
    some .illegalInstruction := by decide +kernel
theorem test_E29 : raised (inState hConfig .s true false true) 0x01501573 =
    some .illegalInstruction := by decide +kernel
theorem test_E30 : raised (inState hConfig .s true true false) 0x01501573 =
    some .virtualInstruction := by decide +kernel
theorem test_E31 : raised (inState hConfig .u true true false) 0x01501573 =
    some .virtualInstruction := by decide +kernel
theorem test_E32 : raised (inState hConfig .u true false true) 0x01501573 =
    some .illegalInstruction := by decide +kernel
theorem test_E33 : raised (inState hConfig .s true true true) 0x01502573 =
    some .illegalInstruction := by decide +kernel
theorem test_E34 : raised (inState zbkbOnly .m false false false) 0x01501573 =
    some .illegalInstruction := by decide +kernel
theorem test_E35 : isNext (step (atPc (machine .rv64 0 0) 0x01501073)) = true := by decide +kernel
theorem test_E36 : raised (inState hConfig .u false false false) 0x01501073 =
    some .illegalInstruction := by decide +kernel
theorem test_E37 : raised (inState hConfig .s false true true) 0x74702573 =
    some .illegalInstruction := by decide +kernel
/-- The value a step leaves in x10. -/
def x10After (o : Host.Outcome State Fault Refusal) : Option XWord :=
  match o with
  | .next t => some (t.readX 10)
  | .fault _ => none
  | .refused _ => none

theorem test_E38 : x10After (step (atPc (inState hConfig .m false true false) 0x74702573)) =
    some 0x200 := by decide +kernel

/-! ## Words of `seed` (S1; R205 and R218 of spec/45_zkr_seed.md) -/

theorem test_S1_status : seedOpst 0x8000ABCD = 0b10 ∧ seedEntropy 0x8000ABCD = 0xABCD ∧
    seedReserved 0x8000ABCD = 0 ∧ seedCustom 0x8000ABCD = 0 := by decide +kernel
theorem test_S1_word : pollWord (tableConfig .rv64) ⟨false, false⟩ ⟨2, 0xABCD, 0, true⟩ = 0x8000ABCD := by
  decide +kernel
theorem test_S1_dead : pollWord (tableConfig .rv64) ⟨true, false⟩ ⟨2, 0xABCD, 5, true⟩ = 0xC0000000 := by
  decide +kernel

/-! ## Spot values of the tables (spec/42_aes.md R141 to R143; spec/44_sm4_sm3.md R190) -/

theorem test_aes_sbox_spots : aesSboxFwd 0x01 = 0x7C ∧ aesSboxFwd 0x53 = 0xED ∧
    aesSboxFwd 0xFF = 0x16 ∧ aesSboxInv 0x00 = 0x52 ∧ aesSboxInv 0x63 = 0x00 ∧
    aesSboxInv 0xFF = 0x7D := by decide +kernel
theorem test_gfmul_spots : xt2 0x57 = 0xAE ∧ xt2 0xAE = 0x47 ∧ xt3 0x57 = 0xF9 ∧
    gfmul 0x57 0xE = 0x67 ∧ gfmul 0x57 0x9 = 0xD9 := by decide +kernel
theorem test_sm4_sbox_spots : sm4Sbox 0x00 = 0xD6 ∧ sm4Sbox 0x01 = 0x90 ∧ sm4Sbox 0x71 = 0x00 ∧
    sm4Sbox 0xEF = 0x84 ∧ sm4Sbox 0xFF = 0x48 := by decide +kernel

/-! ## Witnesses: for each statement with hypotheses, a concrete state and operands that meet them -/

/-- An outcome that is a next state, as a Bool, gives that state. -/
theorem exists_of_isNext {o : Host.Outcome State Fault Refusal} (h : isNext o = true) :
    ∃ t, o = .next t := by
  cases o with
  | next t => exact ⟨t, rfl⟩
  | fault _ => cases h
  | refused _ => cases h

theorem test_witness_DecodeOfEncode :
    (Instr.aes64ks1i 31 1 10).wellFormed (tableConfig .rv64) = true ∧
    (Instr.roriRv64 0 31 63).wellFormed (tableConfig .rv64) = true := by decide +kernel

theorem test_witness_EncodeOfDecode :
    decodeWord (tableConfig .rv64) 0x31A59513 = .instr (.aes64ks1i 10 11 10) := by decide +kernel

theorem test_witness_DecodeRowsDisjoint : ∃ r, decodeRows[1]? = some r ∧
    r.matchesWord 0x26C58533 = true ∧ (r.build 0x26C58533).onXlen .rv32 = true :=
  ⟨rowBs 0x26000033 .aes32esmi, by rfl, by decide +kernel, by decide +kernel⟩

theorem test_witness_StepRunsDecodedInstruction :
    holdsAtPc (atPc (machine .rv64 1 2) 0x40C5F533) 0x33 0xF5 0xC5 0x40 ∧
    decode (tableConfig .rv64) [0x33, 0xF5, 0xC5, 0x40] = .instr (.andn 10 11 12) := by
  unfold holdsAtPc; decide +kernel

theorem test_witness_StepTrapsOnOtherWords :
    holdsAtPc (atPc (machine .rv64 1 2) 0x00000013) 0x13 0x00 0x00 0x00 ∧
    decode (tableConfig .rv64) [0x13, 0x00, 0x00, 0x00] = .rejected .unassigned := by
  unfold holdsAtPc; decide +kernel

/-- A machine whose memory holds the first three bytes of an instruction at `pc` and not the fourth. -/
def threeBytes : State :=
  State.writeBytes (machine .rv64 0 0) 0x80000000 0 [0x33, 0xF5, 0xC5]

/-- Both clauses: a `pc` of 2; no byte at the last aligned address of RV32; the fourth byte alone absent. -/
theorem test_witness_FetchFaultsComeFirst :
    ({ machine .rv64 0 0 with pc := 2 } : State).pc.toNat % (tableConfig .rv64).pcAlign ≠ 0 ∧
    ({ machine .rv32 0 0 with pc := 0xFFFFFFFC } : State).pc.toNat % (tableConfig .rv32).pcAlign = 0 ∧
    ({ machine .rv32 0 0 with pc := 0xFFFFFFFC } : State).mem.read
      (addrAt .rv32 0xFFFFFFFC 0) = none ∧
    threeBytes.pc.toNat % threeBytes.cfg.pcAlign = 0 ∧
    (∀ j < 3, threeBytes.mem.read (addrAt threeBytes.cfg.xlen threeBytes.pc j) ≠ none) ∧
    threeBytes.mem.read (addrAt threeBytes.cfg.xlen threeBytes.pc 3) = none := by decide +kernel

/-- Both clauses: the smallest and the largest reserved round number, and the reserved shift amount. -/
theorem test_witness_ReservedWordsTrap :
    (fetch (atPc (machine .rv64 0 0) 0x31B59513)).toOption = some 0x31B59513 ∧
    (0x31B59513 : Word32) &&& 0xFF00707F = 0x31001013 ∧ (0xA : Word32) < (0x31B59513 >>> 20) &&& 0xF ∧
    (fetch (atPc (machine .rv64 0 0) 0x31F59513)).toOption = some 0x31F59513 ∧
    (0x31F59513 : Word32) &&& 0xFF00707F = 0x31001013 ∧ (0xA : Word32) < (0x31F59513 >>> 20) &&& 0xF ∧
    (fetch (atPc (machine .rv32 0 0) 0x6205D513)).toOption = some 0x6205D513 ∧
    (0x6205D513 : Word32) &&& 0xFE00707F = 0x62005013 := by decide +kernel

/-- A machine in VS mode that meets the invariant. -/
def guest : State :=
  atPc (inState hConfig .s true true false) 0x01501573

theorem test_inv_guest : guest.Inv where
  cfgWf := by decide +kernel
  memWf := by decide +kernel
  memFits := by decide +kernel
  regs := by unfold State.regsFit; decide +kernel
  pcFits := by decide +kernel
  pcAligned := by decide +kernel
  mode := by unfold State.modeExists; decide +kernel
  sseedOk := by decide +kernel
  useedOk := by decide +kernel
  noiseOk := by decide +kernel

/-- `csrrw x10, seed, x0`. -/
def pollForm : CsrForm := ⟨.rw, false, 10, 0x015, 0⟩

/-- `csrrs x10, seed, x0`, a read-only form. -/
def readForm : CsrForm := ⟨.rs, false, 10, 0x015, 0⟩

/-- Clause 2 in VS and in VU, clause 3 in a state that meets the invariant. -/
theorem test_witness_VirtualInstructionExactly :
    (readForm.csr = 0x015 ∧ readForm.isWrite = false) ∧ guest.inMode .vs ∧
    (inState hConfig .u true true false).inMode .vu ∧
    guest.Inv ∧ traps pollForm.instr guest .virtualInstruction :=
  ⟨by decide +kernel, ⟨rfl, rfl⟩, ⟨rfl, rfl⟩, test_inv_guest, by unfold traps; rfl⟩

/-- The hypotheses of AndnOrnXnorResults, RotateResults, RotateWordResults, PackResults,
ByteReversalResults, ZipUnzipResults, ClmulResults, XpermResults, Aes32Results, Aes64FinalRoundResults,
Aes64MixResults, Aes64KeyScheduleResults, Sha256Results, Sha512Rv64Results, Sha512Rv32Results, Sm4Results
and Sm3Results, and of the last clause of ZbkbIdentities: a machine that has their extensions, at each width. -/
theorem test_witness_results :
    (machine .rv32 0 0).cfg.ext = .all ∧ (machine .rv32 0 0).cfg.xlen = .rv32 ∧
    (machine .rv64 0 0).cfg.ext = .all ∧ (machine .rv64 0 0).cfg.xlen = .rv64 ∧
    Ext.all.zbkb = true ∧ Ext.all.zbkc = true ∧ Ext.all.zbkx = true ∧ Ext.all.zknd = true ∧
    Ext.all.zkne = true ∧ Ext.all.zknh = true ∧ Ext.all.zksed = true ∧ Ext.all.zksh = true ∧
    Ext.all.zkr = true := by decide +kernel

/-- The legal round numbers at the ends and where the constant's form changes. -/
theorem test_witness_Aes64KeyScheduleResults :
    ∀ n ∈ [(0 : BitVec 4), 7, 8, 9, 10], n.toNat ≤ 10 := by decide +kernel

/-- Rotate amounts at both ends of the range. -/
theorem test_witness_ZbkbIdentities :
    ∀ n ∈ [(1 : Nat), 31], 0 < n ∧ n < 32 ∧ 0 < 63 ∧ 63 < 64 := by decide +kernel

/-- A source in its noise test, as `mnoise` leaves it. -/
def noisy : State :=
  { machine .rv64 0 0 with
    cfg := { tableConfig .rv64 with mnoise := some 0x7C0 }, es := ⟨false, true⟩ }

/-- A dead source. -/
def deadSource : State :=
  { atPc (machine .rv64 0 0) 0x01501573 with es := ⟨true, false⟩ }

/-- A virtual source with neither WAIT nor BIST. -/
def virtualSource : State :=
  machine .rv64 0 0 |> fun s => { s with cfg := { s.cfg with esKind := .virtualDrbg 256 false false } }

theorem granted_of_m {s : State} (h : s.priv = .m ∧ s.virt = false) : s.granted := .inl h

/-- Each grant, and each clause on the source: dead, in the noise test, virtual. -/
theorem test_witness_SeedPollResult :
    (pollForm.csr = 0x015 ∧ pollForm.isWrite = true ∧ pollForm.rd ≠ 0) ∧
    (deadSource.granted ∧ deadSource.cfg.ext.zkr = true ∧ deadSource.es.dead = true) ∧
    (noisy.granted ∧ noisy.cfg.ext.zkr = true ∧ noisy.es.noiseTest = true) ∧
    (virtualSource.granted ∧ virtualSource.cfg.esKind = .virtualDrbg 256 false false) ∧
    (inState hConfig .s false true false).granted ∧ (inState hConfig .u false false true).granted :=
  ⟨by decide +kernel, ⟨granted_of_m ⟨rfl, rfl⟩, rfl, rfl⟩, ⟨granted_of_m ⟨rfl, rfl⟩, rfl, rfl⟩,
    ⟨granted_of_m ⟨rfl, rfl⟩, rfl⟩, .inr (.inl ⟨⟨rfl, rfl⟩, rfl⟩), .inr (.inr ⟨⟨rfl, rfl⟩, rfl⟩)⟩

theorem test_witness_SeedToX0 : ∃ f : CsrForm, f.csr = 0x015 ∧ f.isWrite = true ∧ f.rd = 0 ∧
    (machine .rv64 0 0).cfg.ext.zkr = true ∧ (machine .rv64 0 0).granted :=
  ⟨⟨.rs, true, 0, 0x015, 31⟩, rfl, by decide, rfl, rfl, granted_of_m ⟨rfl, rfl⟩⟩

/-- Each kind of source: dead in its noise test, in the noise test, physical, virtual with neither flag
and with both. -/
theorem test_witness_EveryAllowedPollHappens :
    (EntropySource.mk true true).dead = true ∧
    ((EntropySource.mk false true).dead = false ∧ (EntropySource.mk false true).noiseTest = true) ∧
    ((EntropySource.mk false false).dead = false ∧ (EntropySource.mk false false).noiseTest = false) ∧
    (∃ standard, (tableConfig .rv64).esKind = .physical standard) ∧
    (∃ k, virtualSource.cfg.esKind = .virtualDrbg k false false) ∧
    ∃ k, ({ tableConfig .rv64 with esKind := .virtualDrbg 256 true true } : Config).esKind =
      .virtualDrbg k true true :=
  ⟨rfl, ⟨rfl, rfl⟩, ⟨rfl, rfl⟩, ⟨_, rfl⟩, ⟨_, rfl⟩, ⟨_, rfl⟩⟩

theorem test_witness_EntropyOnFailureIsZero :
    seedOpst (pollWord (tableConfig .rv64) ⟨false, false⟩ ⟨1, 0xABCD, 0, true⟩) ≠ 0b10 := by
  decide +kernel

/-- Each cell of the table. -/
theorem test_witness_SeedAccessTable :
    (readForm.csr = 0x015 ∧ readForm.isWrite = false) ∧ (pollForm.csr = 0x015 ∧ pollForm.isWrite = true) ∧
    hConfig.ext.zkr = true ∧ ∀ a b : Bool, (inState hConfig .m false a b).inMode .m ∧
      ((inState hConfig .s false a b).inMode .s ∧ (inState hConfig .s false a b).sseed = a) ∧
      ((inState hConfig .u false a b).inMode .u ∧ (inState hConfig .u false a b).useed = b) ∧
      ((inState hConfig .s true a b).inMode .vs ∧ (inState hConfig .s true a b).sseed = a) ∧
      ((inState hConfig .u true a b).inMode .vu ∧ (inState hConfig .u true a b).sseed = a) :=
  ⟨by decide, by decide, by decide, fun _ _ =>
    ⟨⟨rfl, rfl⟩, ⟨⟨rfl, rfl⟩, rfl⟩, ⟨⟨rfl, rfl⟩, rfl⟩, ⟨⟨rfl, rfl⟩, rfl⟩, ⟨⟨rfl, rfl⟩, rfl⟩⟩⟩

theorem test_witness_WrittenValueIgnored : ∃ (f g : CsrForm) (s s' t : State), f.csr = 0x015 ∧
    f.alike g ∧ f.isWrite = true ∧ g.isWrite = true ∧ f ≠ g ∧ sameButRegs s s' ∧
    s.readX 11 ≠ s'.readX 11 ∧ exec f.instr s = .next t :=
  have ⟨t, ht⟩ := exists_of_isNext (o := exec pollForm.instr (machine .rv64 1 0)) (by decide +kernel)
  ⟨pollForm, ⟨.rs, true, 10, 0x015, 1⟩, machine .rv64 1 0, machine .rv64 2 0, t, rfl, ⟨rfl, rfl⟩,
    by decide, by decide, by decide, rfl, by decide +kernel, ht⟩

theorem test_witness_SeedWithoutZkrTraps :
    pollForm.csr = 0x015 ∧ (inState zbkbOnly .m false false false).cfg.ext.zkr = false := by
  decide +kernel

/-- A hart without Zkr on which another feature requires `mseccfg`. -/
def otherFeature : Config :=
  { zbkbOnly with mseccfgOther := true }

/-- Each operation, with `mseccfg` there for Zkr and for another feature. -/
theorem test_witness_MseccfgResults :
    (∀ o ∈ [CsrOp.rw, .rs, .rc],
      (CsrForm.mk o false 10 0x747 11).csr = (tableConfig .rv64).mseccfgAddr) ∧
    (tableConfig .rv64).mseccfgAddr ≠ 0x015 ∧ (machine .rv64 0x300 0).cfg.ext.zkr = true ∧
    (machine .rv64 0x300 0).priv = .m ∧ otherFeature.mseccfgAddr ≠ 0x015 ∧
    otherFeature.mseccfgOther = true ∧ (CsrForm.mk .rw true 10 0x747 0).isWrite = true ∧
    (CsrForm.mk .rs false 10 0x747 0).isWrite = false := by decide +kernel

theorem test_witness_MseccfgDiscovery : ∃ t : State,
    exec (.csrrw 0 (machine .rv64 0x300 0).cfg.mseccfgAddr 11) (machine .rv64 0x300 0) = .next t ∧
    (machine .rv64 0x300 0).cfg.mseccfgAddr ≠ 0x015 ∧ (machine .rv64 0x300 0).priv = .m ∧
    (machine .rv64 0x300 0).cfg.ext.zkr = true ∧ (machine .rv64 0x300 0).readX 11 = 0x300 :=
  have ⟨t, ht⟩ := exists_of_isNext
    (o := exec (.csrrw 0 (machine .rv64 0x300 0).cfg.mseccfgAddr 11) (machine .rv64 0x300 0))
    (by decide +kernel)
  ⟨t, ht, by decide +kernel⟩

theorem test_witness_MseccfghResults :
    (CsrForm.mk .rw false 10 0x757 11).csr = (machine .rv32 0 0).cfg.mseccfghAddr ∧
    (machine .rv32 0 0).cfg.xlen = .rv32 ∧ (machine .rv32 0 0).cfg.mseccfghAddr ≠ 0x015 ∧
    (machine .rv32 0 0).cfg.mseccfghAddr ≠ (machine .rv32 0 0).cfg.mseccfgAddr ∧
    (machine .rv32 0 0).cfg.ext.zkr = true ∧ (machine .rv32 0 0).priv = .m := by decide +kernel

theorem test_witness_MnoiseResults :
    noisy.cfg.wf = true ∧ noisy.cfg.mnoise = some (CsrForm.mk .rc false 10 0x7C0 11).csr ∧
    noisy.priv = .m := by decide +kernel

/-- The three clauses, from S mode. -/
theorem test_witness_MachineCsrsTrapOutsideM :
    ({ noisy with priv := .s } : State).priv ≠ .m ∧ (0x747 : CsrAddr) = noisy.cfg.mseccfgAddr ∧
    (0x757 : CsrAddr) = noisy.cfg.mseccfghAddr ∧ noisy.cfg.mnoise = some 0x7C0 ∧
    (0x747 : CsrAddr) ≠ 0x015 ∧ (0x757 : CsrAddr) ≠ 0x015 ∧ (0x7C0 : CsrAddr) ≠ 0x015 := by
  decide +kernel

/-- At the top of the address space too. -/
theorem test_witness_PcAdvancesByFour :
    (∃ t, step (atPc (machine .rv64 1 2) 0x40C5F533) = .next t) ∧
    ∃ t, step (atPc { machine .rv32 1 2 with pc := 0xFFFFFFFC } 0x40C5F533) = .next t :=
  ⟨exists_of_isNext (by decide +kernel), exists_of_isNext (by decide +kernel)⟩

theorem test_witness_TwoReadsOneWrite : ∃ t : State,
    exec (.andn 10 11 0) (machine .rv64 1 2) = .next t ∧
    sameButRegsAndMem (machine .rv64 1 2) (atPc (machine .rv64 1 3) 0) ∧
    agreeOn (Instr.sources (.andn 10 11 0)) (machine .rv64 1 2) (atPc (machine .rv64 1 3) 0) ∧
    machine .rv64 1 2 ≠ atPc (machine .rv64 1 3) 0 :=
  have ⟨t, ht⟩ := exists_of_isNext (o := exec (.andn 10 11 0) (machine .rv64 1 2)) (by decide +kernel)
  ⟨t, ht, rfl, by unfold agreeOn; decide +kernel, by decide +kernel⟩

theorem test_witness_ComputationIgnoresMode : ∃ t : State,
    (Instr.sm3p1 10 11).isCsr = false ∧ exec (.sm3p1 10 11) (machine .rv64 1 2) = .next t :=
  have ⟨t, ht⟩ := exists_of_isNext (o := exec (.sm3p1 10 11) (machine .rv64 1 2)) (by decide +kernel)
  ⟨t, by decide, ht⟩

theorem test_witness_ZktIsNotObservable :
    (∃ t, exec (.clmul 10 11 12) (machine .rv64 1 2) = .next t) ∧
    ∃ r, exec (.zip 10 11) (machine .rv64 1 2) = .fault r :=
  ⟨exists_of_isNext (by decide +kernel), _, rfl⟩

/-- Two instructions in a row: `andn x10, x11, x12` and `csrrs x10, mseccfg, x0`. -/
def twoSteps (s : State) : State :=
  State.writeBytes (atPc s 0x40C5F533) s.pc 4 (bytesOfWord 0x74702573)

theorem test_witness_RunsKeepModeAndMemory :
    ∃ t : State, Sys2Proof.core.run 2 (twoSteps (machine .rv64 1 2)) = .next t :=
  exists_of_isNext (by decide +kernel)

theorem test_witness_LowerModesCannotGrantAccess :
    (inState hConfig .u false false true).priv ≠ .m ∧ ∃ t : State,
      Sys2Proof.core.run 1 (atPc (inState hConfig .u false false true) 0x01501573) = .next t :=
  ⟨by decide, exists_of_isNext (by decide +kernel)⟩

/-- Each mode of the hypothesis, in a run of one step. -/
theorem test_witness_UngrantedRunsLeaveTheSource :
    ((inState hConfig .s false false true).inMode .s ∧ ∃ t : State,
      Sys2Proof.core.run 1 (atPc (inState hConfig .s false false true) 0x40C5F533) = .next t) ∧
    ((inState hConfig .u false true false).inMode .u ∧ ∃ t : State,
      Sys2Proof.core.run 1 (atPc (inState hConfig .u false true false) 0x40C5F533) = .next t) ∧
    ((inState hConfig .s true true true).inMode .vs ∧ ∃ t : State,
      Sys2Proof.core.run 1 (atPc (inState hConfig .s true true true) 0x40C5F533) = .next t) ∧
    ((inState hConfig .u true true true).inMode .vu ∧ ∃ t : State,
      Sys2Proof.core.run 1 (atPc (inState hConfig .u true true true) 0x40C5F533) = .next t) :=
  ⟨⟨⟨rfl, rfl⟩, exists_of_isNext (by decide +kernel)⟩, ⟨⟨rfl, rfl⟩, exists_of_isNext (by decide +kernel)⟩,
    ⟨⟨rfl, rfl⟩, exists_of_isNext (by decide +kernel)⟩, ⟨⟨rfl, rfl⟩, exists_of_isNext (by decide +kernel)⟩⟩

theorem test_witness_DeadIsFinal :
    deadSource.es.dead = true ∧ ∃ t : State, Sys2Proof.core.run 1 deadSource = .next t :=
  ⟨rfl, exists_of_isNext (by decide +kernel)⟩

theorem test_witness_ResetLeaves : ∃ s : State,
    s = .resetOf hConfig (Vector.replicate 32 5) [(3, 1)] 7 := ⟨_, rfl⟩

theorem test_witness_InvAtEveryReset :
    hConfig.wf = true ∧ Memory.wf [(0, 1), (2 ^ 64 - 1, 2)] = true ∧
    (∀ cell ∈ ([(0, 1), (2 ^ 64 - 1, 2)] : Memory), cell.1 < 2 ^ hConfig.xlen.bits) ∧
    ∀ r : Fin 32, ((Vector.replicate 32 (BitVec.allOnes 64))[r]).toNat < 2 ^ hConfig.xlen.bits := by
  decide +kernel

/-- A machine in HS mode, granted, about to poll. -/
def host : State :=
  atPc (inState hConfig .s false true false) 0x01501573

theorem test_inv_host : host.Inv where
  cfgWf := by decide +kernel
  memWf := by decide +kernel
  memFits := by decide +kernel
  regs := by unfold State.regsFit; decide +kernel
  pcFits := by decide +kernel
  pcAligned := by decide +kernel
  mode := by unfold State.modeExists; decide +kernel
  sseedOk := by decide +kernel
  useedOk := by decide +kernel
  noiseOk := by decide +kernel

theorem test_witness_StepKeepsInv : ∃ t, host.Inv ∧ step host = .next t :=
  have ⟨t, ht⟩ := exists_of_isNext (o := step host) (by decide +kernel)
  ⟨t, test_inv_host, ht⟩

/-- A completed step, both exceptions, the two ends of the reserved round numbers, and `seed` without
Zkr. -/
theorem test_witness_ComposedStepAgrees :
    ((∃ t, step host = .next t) ∧ (fetch guest).toOption = some 0x01501573 ∧
      decodeWord guest.cfg 0x01501573 = .instr pollForm.instr ∧
      traps pollForm.instr guest .virtualInstruction ∧ traps readForm.instr guest .illegalInstruction) ∧
    ((fetch (atPc (machine .rv64 0 0) 0x31B59513)).toOption = some 0x31B59513 ∧
      (fetch (atPc (machine .rv64 0 0) 0x31F59513)).toOption = some 0x31F59513 ∧
      (machine .rv64 0 0).cfg.xlen = .rv64 ∧ (machine .rv64 0 0).cfg.ext.zkne = true) ∧
    ((fetch (atPc (inState zbkbOnly .m false false false) (encode pollForm.instr))).toOption =
      some (encode pollForm.instr) ∧ pollForm.csr = 0x015 ∧ zbkbOnly.ext.zkr = false) :=
  ⟨⟨exists_of_isNext (by decide +kernel), by decide +kernel, by decide +kernel,
    by unfold traps; rfl, by unfold traps; rfl⟩, by decide +kernel, by decide +kernel⟩

/-- A base machine that completes every word but 0, on which it traps. -/
def someBase : BaseStep := fun w s =>
  if w = 0 then raise .illegalInstruction w s else .next s

/-- The three kinds of word: no row (and a row whose extension is absent), the reserved `rori`, a CSR
address without a CSR, each with a base machine that completes, and one that traps. -/
theorem test_witness_ComposedHandsOver :
    ((fetch (atPc (inState zbkbOnly .m false false false) 0x0AC59533)).toOption = some 0x0AC59533 ∧
      ∀ r ∈ decodeRows, r.matchesWord 0x0AC59533 = true → (r.build 0x0AC59533).onXlen .rv32 = true →
        (r.build 0x0AC59533).inExt zbkbOnly.ext = false) ∧
    ((fetch (atPc (machine .rv32 0 0) 0x6245D513)).toOption = some 0x6245D513 ∧
      (0x6245D513 : Word32) &&& 0xFE00707F = 0x62005013) ∧
    ((fetch (atPc (machine .rv64 0 0) 0x30001573)).toOption = some 0x30001573 ∧
      (0x30001573 : Word32) = encode (CsrForm.mk .rw false 10 0x300 0).instr ∧
      (tableConfig .rv64).csrAt 0x300 = none) ∧
    ((fetch (atPc (machine .rv64 0 0) 0)).toOption = some 0 ∧
      ∀ r ∈ decodeRows, r.matchesWord 0 = false) ∧
    (∃ t, someBase 0x0AC59533 (machine .rv32 0 0) = .next t) ∧
    ∃ x, someBase 0 (machine .rv64 0 0) = .fault (.trap x) :=
  ⟨by decide +kernel, by decide +kernel, by decide +kernel, by decide +kernel,
    exists_of_isNext (by decide +kernel), _, rfl⟩

/-- An instruction that completes, at `seed` and elsewhere. -/
theorem test_witness_DrawsOnlyAtSeed :
    (∃ t, exec pollForm.instr (machine .rv64 1 2) = .next t) ∧
    ∃ t, exec (.csrrs 10 0x747 0) (machine .rv64 1 2) = .next t :=
  ⟨exists_of_isNext (by decide +kernel), exists_of_isNext (by decide +kernel)⟩

/-! ## `mnoise` and the hooks -/

/-- The count of draws a step leaves. -/
def drawsAfter (o : Host.Outcome State Fault Refusal) : Option Nat :=
  match o with
  | .next t => some t.draws
  | .fault _ => none
  | .refused _ => none

/-- R272: a read of `mnoise` makes no draw, an access to `seed` makes one. -/
theorem test_only_seed_draws :
    drawsAfter (exec (.csrrs 10 0x7C0 0) noisy) = some 0 ∧
    drawsAfter (exec (.csrrw 10 0x015 0) noisy) = some 1 := by decide +kernel

/-- D5: a composed machine offers the reserved `rori` of RV32 to its base machine. -/
theorem test_composed_offers_reserved_rori :
    isNext (stepComposed someBase (fun s _ _ _ => s) (atPc (machine .rv32 0 0) 0x6245D513)) = true ∧
    forBase .reservedShamt 0x6245D513 = true ∧ forBase .reservedRnum 0x31B59513 = false := by
  decide +kernel

end Sys2Proof.Tests
end

section
/-! The 2-read-1-write constraint (spec/00_scope.md R6). What an instruction computes is a function of its
source registers; what it leaves is one register write over a frame that register contents and memory do
not reach. -/

namespace Sys2Proof.Proofs

open Sys2Proof.Machine Sys2Proof.Laws

/-! ## Values that depend on named registers only -/

/-- A value of the state that looks at the configuration and at the registers of a list only. -/
def DependsOn (rs : List Reg) (v : State → XWord) : Prop :=
  ∀ s s' : State, s'.cfg = s.cfg → agreeOn rs s s' → v s' = v s

theorem agreeOn_singleton {r : Reg} {s s' : State} :
    agreeOn [r] s s' ↔ s.readX r = s'.readX r := by
  simp [agreeOn]

theorem agreeOn_pair {r q : Reg} {s s' : State} :
    agreeOn [r, q] s s' ↔ s.readX r = s'.readX r ∧ s.readX q = s'.readX q := by
  simp [agreeOn]

theorem dependsOn_readX (r : Reg) (f : XWord → XWord) : DependsOn [r] fun s => f (s.readX r) := by
  intro s s' _ ha
  have hr := agreeOn_singleton.1 ha
  simp only [hr]

theorem dependsOn_readX₂ (r q : Reg) (f : XWord → XWord → XWord) :
    DependsOn [r, q] fun s => f (s.readX r) (s.readX q) := by
  intro s s' _ ha
  obtain ⟨hr, hq⟩ := agreeOn_pair.1 ha
  simp only [hr, hq]

theorem dependsOn_opX1 (f32 : Word32 → Word32) (f64 : XWord → XWord) (r : Reg) :
    DependsOn [r] fun s => s.opX1 f32 f64 r := by
  intro s s' hc ha
  have hr := agreeOn_singleton.1 ha
  simp only [State.opX1, State.readW, hc, hr]

theorem dependsOn_opX2 (f32 : Word32 → Word32 → Word32) (f64 : XWord → XWord → XWord) (r q : Reg) :
    DependsOn [r, q] fun s => s.opX2 f32 f64 r q := by
  intro s s' hc ha
  obtain ⟨hr, hq⟩ := agreeOn_pair.1 ha
  simp only [State.opX2, State.readW, hc, hr, hq]

theorem dependsOn_opW1 (f : Word32 → Word32) (r : Reg) : DependsOn [r] fun s => s.opW1 f r := by
  intro s s' hc ha
  have hr := agreeOn_singleton.1 ha
  simp only [State.opW1, State.readW, hc, hr]

theorem dependsOn_opW2 (f : Word32 → Word32 → Word32) (r q : Reg) :
    DependsOn [r, q] fun s => s.opW2 f r q := by
  intro s s' hc ha
  obtain ⟨hr, hq⟩ := agreeOn_pair.1 ha
  simp only [State.opW2, State.readW, hc, hr, hq]

/-- The source value of a CSR form: an immediate looks at no register. -/
theorem dependsOn_source (f : CsrForm) : DependsOn (Instr.sources f.instr) f.source := by
  obtain ⟨op, imm, rd, csr, field⟩ := f
  cases imm with
  | true => exact fun _ _ _ _ => rfl
  | false => cases op <;> exact dependsOn_readX field id

/-- `exec_computational` with the value as one function for all states, which looks at the source
registers only. The cases follow the operand forms. -/
theorem exec_computational_dependsOn (i : Instr) (h : i.isCsr = false) :
    ∃ v : State → XWord, DependsOn (Instr.sources i) v ∧ ∀ s, exec i s = compute i (v s) s := by
  cases i with
  | andn | orn | xnor | rol | ror | pack | packh | clmul | clmulh | xperm8 | xperm4 =>
    exact ⟨_, dependsOn_opX2 _ _ _ _, fun _ => rfl⟩
  | brev8 => exact ⟨_, dependsOn_opX1 _ _ _, fun _ => rfl⟩
  | rolw | rorw | packw | aes32dsi | aes32dsmi | aes32esi | aes32esmi | sha512sig0h | sha512sig0l
  | sha512sig1h | sha512sig1l | sha512sum0r | sha512sum1r | sm4ed | sm4ks =>
    exact ⟨_, dependsOn_opW2 _ _ _, fun _ => rfl⟩
  | roriRv32 | roriw | rev8Rv32 | zip | unzip | sha256sig0 | sha256sig1 | sha256sum0 | sha256sum1
  | sm3p0 | sm3p1 =>
    exact ⟨_, dependsOn_opW1 _ _, fun _ => rfl⟩
  | aes64ds | aes64dsm | aes64es | aes64esm | aes64ks2 =>
    exact ⟨_, dependsOn_readX₂ _ _ _, fun _ => rfl⟩
  | rev8Rv64 | aes64im | sha512sig0 | sha512sig1 | sha512sum0 | sha512sum1 =>
    exact ⟨_, dependsOn_readX _ _, fun _ => rfl⟩
  | roriRv64 _ _ shamt => exact ⟨_, dependsOn_readX _ (rorV · shamt.toNat), fun _ => rfl⟩
  | aes64ks1i _ _ rnum => exact ⟨_, dependsOn_readX _ (aes64ks1iV · rnum), fun _ => rfl⟩
  | csrrw | csrrs | csrrc | csrrwi | csrrsi | csrrci => cases h

theorem sources_length_le_two (i : Instr) : (Instr.sources i).length ≤ 2 := by
  cases i <;> simp [Instr.sources]

/-! ## States that differ in registers and memory only -/

theorem sameButRegsAndMem_refl (s : State) : sameButRegsAndMem s s := rfl

theorem sameButRegsAndMem_iff {s t : State} : sameButRegsAndMem s t ↔
    t.cfg = s.cfg ∧ t.pc = s.pc ∧ t.priv = s.priv ∧ t.virt = s.virt ∧ t.sseed = s.sseed ∧
      t.useed = s.useed ∧ t.es = s.es ∧ t.draws = s.draws := by
  cases s; cases t
  simp only [sameButRegsAndMem, State.mk.injEq, true_and]

/-! ## One register written -/

/-- The step wrote `v` to `rd` and to no other register, and left the configuration and memory. -/
structure WritesOne (rd : Reg) (v : XWord) (s t : State) : Prop where
  cfg : t.cfg = s.cfg
  mem : t.mem = s.mem
  regs : t.x = setReg s.cfg.xlen s.x rd v

theorem WritesOne.onlyRegister {rd : Reg} {v : XWord} {s t : State} (h : WritesOne rd v s t) :
    onlyRegister rd s t := by
  intro r hr
  rw [readX_setReg rd v h.cfg h.regs, if_neg (fun e => hr e.1)]

/-- The value read back depends on what was written and on the width only. -/
theorem WritesOne.readX_rd_congr {rd : Reg} {v : XWord} {s t s' t' : State} (h : WritesOne rd v s t)
    (h' : WritesOne rd v s' t') (hc : s'.cfg = s.cfg) : t'.readX rd = t.readX rd := by
  by_cases hrd : rd = 0
  · rw [hrd, readX_zero, readX_zero]
  · have hif : rd = rd ∧ rd ≠ 0 := ⟨rfl, hrd⟩
    rw [readX_setReg rd v h.cfg h.regs, readX_setReg rd v h'.cfg h'.regs, hc, if_pos hif, if_pos hif]

theorem retire_writesOne (s : State) (rd : Reg) (v : XWord) : WritesOne rd v s (s.retire rd v) :=
  ⟨rfl, rfl, rfl⟩

theorem poll_writesOne (s : State) (rd : Reg) (d : Draw) :
    WritesOne rd (zextX (pollWord s.cfg s.es d)) s (s.poll rd d) := ⟨rfl, rfl, rfl⟩

theorem accessMseccfg_writesOne (s : State) (rd : Reg) (op : CsrOp) (field : BitVec 5) (src : XWord) :
    WritesOne rd s.mseccfg s (s.accessMseccfg rd op field src) :=
  ⟨accessMseccfg_cfg .., accessMseccfg_mem .., accessMseccfg_x ..⟩

theorem accessMnoise_writesOne (s : State) (rd : Reg) (op : CsrOp) (field : BitVec 5) (src : XWord) :
    WritesOne rd s.mnoise s (s.accessMnoise rd op field src) := ⟨rfl, rfl, rfl⟩

/-! ## What agrees in states that differ in registers and memory only, before and after an update -/

theorem nextPc_congr {s s' : State} (hs : sameButRegsAndMem s s') : s'.nextPc = s.nextPc := by
  obtain ⟨hcfg, hpc, -⟩ := sameButRegsAndMem_iff.1 hs
  rw [State.nextPc, State.nextPc, hcfg, hpc]

theorem mseccfg_congr {s s' : State} (hs : sameButRegsAndMem s s') : s'.mseccfg = s.mseccfg := by
  obtain ⟨-, -, -, -, hsseed, huseed, -⟩ := sameButRegsAndMem_iff.1 hs
  rw [State.mseccfg, State.mseccfg, hsseed, huseed]

theorem mnoise_congr {s s' : State} (hs : sameButRegsAndMem s s') : s'.mnoise = s.mnoise := by
  obtain ⟨-, hpc, -, -, -, -, hes, hdraws⟩ := sameButRegsAndMem_iff.1 hs
  rw [State.mnoise, State.mnoise, hes, hdraws, hpc]

theorem seedDenied_congr {s s' : State} (hs : sameButRegsAndMem s s') :
    s'.seedDenied = s.seedDenied := by
  obtain ⟨-, -, hpriv, hvirt, hsseed, huseed, -⟩ := sameButRegsAndMem_iff.1 hs
  rw [State.seedDenied, State.seedDenied, hpriv, hvirt, hsseed, huseed]

theorem retire_same {s s' : State} (hs : sameButRegsAndMem s s') (rd : Reg) (v : XWord) :
    sameButRegsAndMem (s.retire rd v) (s'.retire rd v) := by
  obtain ⟨hcfg, -, hrest⟩ := sameButRegsAndMem_iff.1 hs
  exact sameButRegsAndMem_iff.2 ⟨hcfg, nextPc_congr hs, hrest⟩

theorem poll_same {s s' : State} (hs : sameButRegsAndMem s s') (rd : Reg) (d : Draw) :
    sameButRegsAndMem (s.poll rd d) (s'.poll rd d) := by
  obtain ⟨hcfg, -, hpriv, hvirt, hsseed, huseed, hes, hdraws⟩ := sameButRegsAndMem_iff.1 hs
  refine sameButRegsAndMem_iff.2 ⟨hcfg, nextPc_congr hs, hpriv, hvirt, hsseed, huseed, ?_, ?_⟩
  · rw [poll_es, poll_es, hcfg, hes]
  · rw [poll_draws, poll_draws, hdraws]

theorem accessMseccfg_same {s s' : State} (hs : sameButRegsAndMem s s') (rd : Reg) (op : CsrOp)
    (field : BitVec 5) (src : XWord) :
    sameButRegsAndMem (s.accessMseccfg rd op field src) (s'.accessMseccfg rd op field src) := by
  obtain ⟨hcfg, -, hpriv, hvirt, hsseed, huseed, hes, hdraws⟩ := sameButRegsAndMem_iff.1 hs
  simp [sameButRegsAndMem_iff, nextPc_congr hs, mseccfg_congr hs, hcfg, hpriv, hvirt, hsseed, huseed,
    hes, hdraws]

theorem accessMnoise_same {s s' : State} (hs : sameButRegsAndMem s s') (rd : Reg) (op : CsrOp)
    (field : BitVec 5) (src : XWord) :
    sameButRegsAndMem (s.accessMnoise rd op field src) (s'.accessMnoise rd op field src) := by
  obtain ⟨hcfg, -, hpriv, hvirt, hsseed, huseed, hes, hdraws⟩ := sameButRegsAndMem_iff.1 hs
  refine sameButRegsAndMem_iff.2 ⟨hcfg, nextPc_congr hs, hpriv, hvirt, hsseed, huseed, ?_, hdraws⟩
  rw [accessMnoise_es, accessMnoise_es, mnoise_congr hs, hes]

/-! ## CSR accesses that complete -/

theorem machineOnly_of_m {s : State} (h : s.priv = .m) (i : Instr)
    (k : Host.Outcome State Fault Refusal) : machineOnly i s k = k := if_pos h

theorem exec_form_seed_of_granted {f : CsrForm} {s : State} (h : s.cfg.csrAt f.csr = some .seed)
    (hw : f.isWrite = true) (hd : s.seedDenied = none) :
    exec f.instr s = .next (s.poll f.rd (Config.draw s.draws)) := by
  have hw' : f.op.isWrite f.field = true := hw
  rw [exec_form_seed f s h, seedAccess, if_pos hw', hd, instr_rd]

/-! ## The simulation -/

/-- The instruction, which leads from `s` to `t`, completes from `s'` too: both write one value to `rd`, and
what they leave differs in registers and memory only. -/
def CompletesAlike (i : Instr) (s t s' : State) : Prop :=
  ∃ (v : XWord) (t' : State), exec i s' = .next t' ∧ WritesOne i.rd v s t ∧ WritesOne i.rd v s' t' ∧
    sameButRegsAndMem t t'

theorem computational_completesAlike {i : Instr} {s t s' : State} (hi : i.isCsr = false)
    (h : exec i s = .next t) (hs : sameButRegsAndMem s s') (ha : agreeOn (Instr.sources i) s s') :
    CompletesAlike i s t s' := by
  obtain ⟨v, hv, hexec⟩ := exec_computational_dependsOn i hi
  have hcfg : s'.cfg = s.cfg := (sameButRegsAndMem_iff.1 hs).1
  have hval : v s' = v s := hv s s' hcfg ha
  cases hw : i.wellFormed s.cfg with
  | false => rw [hexec, compute_of_not hw, raiseFrom_eq] at h; cases h
  | true =>
    rw [hexec, compute_of_wellFormed hw] at h
    cases h
    refine ⟨v s, s'.retire i.rd (v s), ?_, retire_writesOne .., retire_writesOne .., retire_same hs ..⟩
    rw [hexec, hval, compute_of_wellFormed (hcfg ▸ hw)]

/-- What an instruction does from `s` it does from any state that differs in registers and memory only and
agrees on the sources: one case for the computational instructions and one for each CSR. -/
theorem exec_completesAlike {i : Instr} {s t s' : State} (h : exec i s = .next t)
    (hs : sameButRegsAndMem s s') (ha : agreeOn (Instr.sources i) s s') : CompletesAlike i s t s' := by
  obtain ⟨hi, -⟩ | ⟨f, rfl, hcsr⟩ := exec_next h
  · exact computational_completesAlike hi h hs ha
  obtain ⟨hcfg, -, hpriv, -, -, -, hes, hdraws⟩ := sameButRegsAndMem_iff.1 hs
  have hsrc : f.source s' = f.source s := dependsOn_source f s s' hcfg ha
  unfold CompletesAlike
  rw [instr_rd]
  obtain ⟨hat, hw, hd, rfl⟩ | ⟨hat, hm, rfl⟩ | ⟨hat, hm, rfl⟩ | ⟨hat, hm, rfl⟩ := hcsr
  case inl =>
    have hexec := exec_form_seed_of_granted (s := s') (hcfg ▸ hat) hw (seedDenied_congr hs ▸ hd)
    have hwrite := poll_writesOne s' f.rd (Config.draw s.draws)
    rw [hcfg, hes] at hwrite
    exact ⟨_, _, hdraws ▸ hexec, poll_writesOne .., hwrite, poll_same hs ..⟩
  case inr.inl =>
    have hexec := exec_form_mseccfg f s' (hcfg ▸ hat)
    rw [machineOnly_of_m (hpriv.trans hm), hsrc] at hexec
    exact ⟨_, _, hexec, accessMseccfg_writesOne .., mseccfg_congr hs ▸ accessMseccfg_writesOne ..,
      accessMseccfg_same hs ..⟩
  case inr.inr.inl =>
    have hexec := exec_form_mseccfgh f s' (hcfg ▸ hat)
    rw [machineOnly_of_m (hpriv.trans hm)] at hexec
    exact ⟨0, _, hexec, retire_writesOne .., retire_writesOne .., retire_same hs ..⟩
  case inr.inr.inr =>
    have hexec := exec_form_mnoise f s' (hcfg ▸ hat)
    rw [machineOnly_of_m (hpriv.trans hm), hsrc] at hexec
    exact ⟨_, _, hexec, accessMnoise_writesOne .., mnoise_congr hs ▸ accessMnoise_writesOne ..,
      accessMnoise_same hs ..⟩

/-- Settles O46: a completed instruction writes one register (the simulation from a state to itself), and
the simulation gives the outcome from any state that agrees on the sources. -/
theorem twoReadsOneWrite : Obligations.TwoReadsOneWrite := by
  intro i s s' t h
  obtain ⟨_, _, _, hwrite, _, _⟩ :=
    exec_completesAlike h (sameButRegsAndMem_refl s) (fun _ _ => rfl)
  refine ⟨sources_length_le_two i, hwrite.onlyRegister, hwrite.mem, fun hs ha => ?_⟩
  obtain ⟨v, t', hexec, hst, hst', hsame⟩ := exec_completesAlike h hs ha
  have hcfg : s'.cfg = s.cfg := (sameButRegsAndMem_iff.1 hs).1
  exact ⟨t', hexec, hst.readX_rd_congr hst' hcfg, hst'.onlyRegister, hsame, hst'.mem⟩

end Sys2Proof.Proofs
end

section
/-! Every step, every run and the invariant (spec/10_state.md R21 to R33). One lemma says what a completed
instruction leaves, whatever the instruction; the width and alignment of `pc`, the frame of a run and the
invariant are read off it. -/

namespace Sys2Proof.Proofs

open Sys2Proof.Machine Sys2Proof.Laws

/-! ## Facts about accepted configurations and widths -/

theorem resetPc_ok_of_wf {c : Config} (h : c.wf = true) :
    c.resetPc.toNat < 2 ^ c.xlen.bits ∧ c.resetPc.toNat % c.pcAlign = 0 := by
  simp only [Config.wf, Bool.and_eq_true, decide_eq_true_eq] at h
  obtain ⟨⟨-, hfits⟩, haligned⟩ := h
  exact ⟨hfits, haligned⟩

theorem pcAlign_dvd_four (c : Config) : c.pcAlign ∣ 4 := by
  unfold Config.pcAlign
  split <;> decide

theorem pcAlign_dvd_addressSpace (c : Config) : c.pcAlign ∣ 2 ^ c.xlen.bits := by
  have hfour : 4 ∣ 2 ^ c.xlen.bits := by cases c.xlen <;> decide
  exact (pcAlign_dvd_four c).trans hfour

theorem nextPc_lt (s : State) : s.nextPc.toNat < 2 ^ s.cfg.xlen.bits := truncX_lt ..

/-- The wrap-around at the top of the address space keeps the alignment, which divides its size. -/
theorem nextPc_aligned {s : State} (h : s.pc.toNat % s.cfg.pcAlign = 0) :
    s.nextPc.toNat % s.cfg.pcAlign = 0 := by
  rw [nextPc_toNat, Nat.mod_mod_of_dvd _ (pcAlign_dvd_addressSpace s.cfg)]
  exact Nat.mod_eq_zero_of_dvd
    (Nat.dvd_add (Nat.dvd_of_mod_eq_zero h) (pcAlign_dvd_four s.cfg))

theorem mnoise_eq_of_csrAt {c : Config} {a : CsrAddr} (h : c.csrAt a = some .mnoise) :
    c.mnoise = some a := by
  unfold Config.csrAt at h
  split_ifs at h with _ _ _ _ _ _ hmnoise
  · cases h
  · cases h
  · cases h
  · exact hmnoise

/-! ## What a completed instruction leaves -/

/-- A completed instruction wrote one register, advanced `pc`, left the mode, and set no bit of the CSRs
that the configuration does not let it set. -/
structure Advances (s t : State) : Prop where
  writes : ∃ rd v, WritesOne rd v s t
  pc : t.pc = s.nextPc
  priv : t.priv = s.priv
  virt : t.virt = s.virt
  sseed : t.sseed = true → s.sseed = true ∨ s.cfg.sseedIsWritable = true
  useed : t.useed = true → s.useed = true ∨ s.cfg.useedIsWritable = true
  noise : t.es.noiseTest = true → s.es.noiseTest = true ∨ s.cfg.mnoise.isSome = true

theorem Advances.cfg {s t : State} (h : Advances s t) : t.cfg = s.cfg := by
  obtain ⟨_, _, hw⟩ := h.writes
  exact hw.cfg

theorem Advances.mem {s t : State} (h : Advances s t) : t.mem = s.mem := by
  obtain ⟨_, _, hw⟩ := h.writes
  exact hw.mem

theorem retire_advances (s : State) (rd : Reg) (v : XWord) : Advances s (s.retire rd v) where
  writes := ⟨rd, v, retire_writesOne ..⟩
  pc := rfl
  priv := rfl
  virt := rfl
  sseed := .inl
  useed := .inl
  noise := .inl

/-- A poll may kill the source; it does not touch the noise test. -/
theorem poll_noiseTest (s : State) (rd : Reg) (d : Draw) :
    (s.poll rd d).es.noiseTest = s.es.noiseTest := by
  rw [poll_es]
  split <;> rfl

theorem poll_advances (s : State) (rd : Reg) (d : Draw) : Advances s (s.poll rd d) where
  writes := ⟨rd, _, poll_writesOne ..⟩
  pc := rfl
  priv := rfl
  virt := rfl
  sseed := .inl
  useed := .inl
  noise h := .inl (poll_noiseTest s rd d ▸ h)

/-- A bit that is replaced by `writable && new` in one case and left in the other is 1 only if it was or if
it can be written. -/
theorem old_or_writable_of_ite {p : Prop} [Decidable p] {old writable new : Bool}
    (h : (if p then writable && new else old) = true) : old = true ∨ writable = true := by
  split at h
  · exact .inr (Bool.and_elim_left h)
  · exact .inl h

theorem accessMseccfg_advances (s : State) (rd : Reg) (op : CsrOp) (field : BitVec 5) (src : XWord) :
    Advances s (s.accessMseccfg rd op field src) where
  writes := ⟨rd, _, accessMseccfg_writesOne ..⟩
  pc := accessMseccfg_pc ..
  priv := accessMseccfg_priv ..
  virt := accessMseccfg_virt ..
  sseed h := old_or_writable_of_ite (accessMseccfg_sseed .. ▸ h)
  useed h := old_or_writable_of_ite (accessMseccfg_useed .. ▸ h)
  noise h := .inl (accessMseccfg_es .. ▸ h)

theorem accessMnoise_advances (s : State) (rd : Reg) (op : CsrOp) (field : BitVec 5) (src : XWord)
    (h : s.cfg.mnoise.isSome = true) : Advances s (s.accessMnoise rd op field src) where
  writes := ⟨rd, _, accessMnoise_writesOne ..⟩
  pc := rfl
  priv := rfl
  virt := rfl
  sseed := .inl
  useed := .inl
  noise _ := .inr h

/-- One case for the computational instructions and one for each CSR. -/
theorem exec_advances {i : Instr} {s t : State} (h : exec i s = .next t) : Advances s t := by
  obtain ⟨-, -, v, rfl⟩ | ⟨f, rfl, hcsr⟩ := exec_next h
  · exact retire_advances ..
  obtain ⟨-, -, -, rfl⟩ | ⟨-, -, rfl⟩ | ⟨-, -, rfl⟩ | ⟨hat, -, rfl⟩ := hcsr
  case inl => exact poll_advances ..
  case inr.inl => exact accessMseccfg_advances ..
  case inr.inr.inl => exact retire_advances ..
  case inr.inr.inr =>
    have hsome : s.cfg.mnoise.isSome = true := by rw [mnoise_eq_of_csrAt hat]; rfl
    exact accessMnoise_advances s _ _ _ _ hsome

theorem step_advances {s t : State} (h : step s = .next t) : Advances s t := by
  obtain ⟨_, _, -, -, hexec⟩ := step_next h
  exact exec_advances hexec

/-! ## The invariant -/

/-- A register write cuts the value to XLEN bits, so it keeps the entries XLEN bits wide. -/
theorem WritesOne.regsFit {rd : Reg} {v : XWord} {s t : State} (h : WritesOne rd v s t)
    (hs : s.regsFit) : t.regsFit := by
  intro r
  have hentry : t.x[r] = if BitVec.ofFin r = rd ∧ rd ≠ 0 then truncX s.cfg.xlen v else s.x[r] := by
    rw [h.regs]
    exact getElem_setReg s.cfg.xlen s.x rd (BitVec.ofFin r) v
  rw [hentry, h.cfg]
  split
  · exact truncX_lt ..
  · exact hs r

theorem Advances.inv {s t : State} (h : Advances s t) (hs : s.Inv) : t.Inv where
  cfgWf := h.cfg ▸ hs.cfgWf
  memWf := h.mem ▸ hs.memWf
  memFits := by rw [h.cfg, h.mem]; exact hs.memFits
  regs := by
    obtain ⟨_, _, hw⟩ := h.writes
    exact hw.regsFit hs.regs
  pcFits := by rw [h.pc, h.cfg]; exact nextPc_lt s
  pcAligned := by rw [h.pc, h.cfg]; exact nextPc_aligned hs.pcAligned
  mode := by
    unfold State.modeExists
    rw [h.cfg, h.priv, h.virt]
    exact hs.mode
  sseedOk ht := by rw [h.cfg]; exact (h.sseed ht).elim hs.sseedOk id
  useedOk ht := by rw [h.cfg]; exact (h.useed ht).elim hs.useedOk id
  noiseOk ht := by rw [h.cfg]; exact (h.noise ht).elim hs.noiseOk id

/-- Settles O56: every completed step advances, and advancing keeps the invariant field by field. -/
theorem stepKeepsInv : Obligations.StepKeepsInv :=
  fun _ _ hs h => (step_advances h).inv hs

/-- Reset of an accepted configuration meets the invariant, with registers and memory that fit it. -/
theorem resetOf_inv {c : Config} {x : Vector XWord 32} {m : Memory} (n : Nat) (hc : c.wf = true)
    (hm : m.wf = true) (hfits : ∀ cell ∈ m, cell.1 < 2 ^ c.xlen.bits)
    (hx : ∀ r : Fin 32, (x[r]).toNat < 2 ^ c.xlen.bits) : (State.resetOf c x m n).Inv where
  cfgWf := hc
  memWf := hm
  memFits := hfits
  regs := hx
  pcFits := (resetPc_ok_of_wf hc).1
  pcAligned := (resetPc_ok_of_wf hc).2
  mode := ⟨nofun, nofun, nofun⟩
  sseedOk := Bool.and_elim_right
  useedOk := Bool.and_elim_right
  noiseOk := nofun

/-- Settles O54: `State.reset` is a reset of the default configuration, which is accepted, with empty
memory and registers that hold 0. -/
theorem invAtReset : Obligations.InvAtReset := by
  have hregs : ∀ r : Fin 32, ((Vector.replicate 32 (0 : XWord))[r]).toNat <
      2 ^ Config.default.xlen.bits := by
    intro r
    rw [Fin.getElem_fin, Vector.getElem_replicate]
    exact Nat.two_pow_pos _
  exact resetOf_inv 0 (by decide) rfl nofun hregs

/-- Settles O45: a completed step leaves `nextPc` in `pc`. -/
theorem pcAdvancesByFour : Obligations.PcAdvancesByFour := by
  intro s t h
  rw [(step_advances h).pc, nextPc_toNat]

/-! ## Runs -/

theorem run_succ_next {M : Host.Core} {k : Nat} {s t : M.State} (h : M.run (k + 1) s = .next t) :
    ∃ u, M.step s = .next u ∧ M.run k u = .next t := by
  rw [Host.Core.run] at h
  split at h
  · next u hstep => exact ⟨u, hstep, h⟩
  · cases h
  · cases h

/-- A reflexive relation that a step in front preserves holds between the two ends of a run. -/
theorem run_induction {R : State → State → Prop} (hrefl : ∀ s, R s s)
    (hstep : ∀ s u t, step s = .next u → R u t → R s t) (k : Nat) (s t : State)
    (h : Sys2Proof.core.run k s = .next t) : R s t := by
  induction k generalizing s with
  | zero => cases h; exact hrefl _
  | succ k ih =>
    obtain ⟨u, hu, hrun⟩ := run_succ_next h
    exact hstep s u t hu (ih u hrun)

/-- Two states have one configuration, one mode and the same bytes in memory. -/
def SameModeAndMemory (s t : State) : Prop :=
  t.cfg = s.cfg ∧ t.priv = s.priv ∧ t.virt = s.virt ∧ ∀ a : Nat, t.mem.read a = s.mem.read a

theorem sameModeAndMemory_of_step {s u t : State} (h : step s = .next u)
    (hut : SameModeAndMemory u t) : SameModeAndMemory s t := by
  obtain ⟨hcfg, hpriv, hvirt, hmem⟩ := hut
  have hsu := step_advances h
  exact ⟨hcfg.trans hsu.cfg, hpriv.trans hsu.priv, hvirt.trans hsu.virt,
    fun a => (hmem a).trans (congrArg (Memory.read · a) hsu.mem)⟩

/-- Settles O49, by induction on the number of steps. -/
theorem runsKeepModeAndMemory : Obligations.RunsKeepModeAndMemory :=
  run_induction (R := SameModeAndMemory) (fun _ => ⟨rfl, rfl, rfl, fun _ => rfl⟩)
    (fun _ _ _ => sameModeAndMemory_of_step)

end Sys2Proof.Proofs
end

section
/-! The machine CSRs `mseccfg` and `mnoise` in M mode (spec/10_state.md R31 to R33; spec/45_zkr_seed.md R216,
R217, R234): the address reaches the CSR, the bits of the value read, and the bits written. -/

namespace Sys2Proof.Proofs

open Sys2Proof.Machine Sys2Proof.Laws

/-! ## The addresses -/

theorem csrAt_mseccfgAddr {c : Config} (hseed : c.mseccfgAddr ≠ seedAddr)
    (h : c.ext.zkr = true ∨ c.mseccfgOther = true) : c.csrAt c.mseccfgAddr = some .mseccfg := by
  have hexists : c.mseccfgExists = true := Bool.or_eq_true_iff.2 h
  rw [Config.csrAt, if_neg hseed, if_pos rfl, if_pos hexists]

/-- The addresses of an accepted configuration are distinct, so no other CSR hides `mnoise`. -/
theorem csrAt_mnoise {c : Config} {a : CsrAddr} (hc : c.wf = true) (h : c.mnoise = some a) :
    c.csrAt a = some .mnoise := by
  simp only [Config.wf, Bool.and_eq_true, decide_eq_true_eq, h, ne_eq, Option.some.injEq] at hc
  obtain ⟨⟨⟨-, -, -, hseed, -, hlow, hhigh⟩, -⟩, -⟩ := hc
  have hseed : a ≠ seedAddr := hseed
  rw [Config.csrAt, if_neg hseed, if_neg hlow, if_neg (fun e => hhigh e.1), if_pos h]

/-! ## The values read -/

theorem mseccfg_getLsbD (s : State) (k : Nat) :
    s.mseccfg.getLsbD k = if k = 9 then s.sseed else if k = 8 then s.useed else false := by
  have hsseed : (0x200 : XWord) = BitVec.twoPow 64 9 := rfl
  have huseed : (0x100 : XWord) = BitVec.twoPow 64 8 := rfl
  rw [State.mseccfg, hsseed, huseed]
  by_cases h9 : k = 9
  · subst h9
    cases s.sseed <;> cases s.useed <;> decide
  · by_cases h8 : k = 8
    · subst h8
      cases s.sseed <;> cases s.useed <;> decide
    · cases s.sseed <;> cases s.useed <;> simp [BitVec.getLsbD_twoPow, h9, h8, Ne.symm h9, Ne.symm h8]

theorem mseccfg_lt (s : State) (x : Xlen) : s.mseccfg.toNat < 2 ^ x.bits := by
  unfold State.mseccfg
  cases x <;> cases s.sseed <;> cases s.useed <;> decide

theorem mnoise_getLsbD_31 (s : State) : s.mnoise.getLsbD 31 = s.es.noiseTest := by
  rw [State.mnoise, zextX, BitVec.getLsbD_setWidth, BitVec.getLsbD_append]
  simp

theorem WritesOne.readX_rd {rd : Reg} {v : XWord} {s t : State} (h : WritesOne rd v s t)
    (hrd : rd ≠ 0) (hv : v.toNat < 2 ^ s.cfg.xlen.bits) : t.readX rd = v := by
  rw [readX_setReg rd v h.cfg h.regs, if_pos ⟨rfl, hrd⟩, truncX_of_lt hv]

/-! ## The value written -/

/-- What a CSR operation makes of one bit: replace, set, clear (R217). -/
def newBit (op : CsrOp) (old src : Bool) : Bool :=
  match op with
  | .rw => src
  | .rs => old || src
  | .rc => old && !src

theorem newValue_getLsbD (op : CsrOp) (old src : XWord) {k : Nat} (hk : k < 64) :
    (op.newValue old src).getLsbD k = newBit op (old.getLsbD k) (src.getLsbD k) := by
  cases op with
  | rw => rfl
  | rs => exact BitVec.getLsbD_or ..
  | rc => simp [CsrOp.newValue, newBit, hk]

/-- A write form on `mseccfg` works on each writable bit by itself. -/
theorem accessMseccfg_sseed_of_write {op : CsrOp} {field : BitVec 5} (h : op.isWrite field = true)
    (s : State) (rd : Reg) (src : XWord) : (s.accessMseccfg rd op field src).sseed =
      (s.cfg.sseedIsWritable && newBit op s.sseed (src.getLsbD 9)) := by
  rw [accessMseccfg_sseed, if_pos h, newValue_getLsbD op _ _ (by decide), mseccfg_getLsbD, if_pos rfl]

theorem accessMseccfg_useed_of_write {op : CsrOp} {field : BitVec 5} (h : op.isWrite field = true)
    (s : State) (rd : Reg) (src : XWord) : (s.accessMseccfg rd op field src).useed =
      (s.cfg.useedIsWritable && newBit op s.useed (src.getLsbD 8)) := by
  rw [accessMseccfg_useed, if_pos h, newValue_getLsbD op _ _ (by decide), mseccfg_getLsbD,
    if_neg (by decide), if_pos rfl]

theorem accessMseccfg_bits_of_read {op : CsrOp} {field : BitVec 5} (h : op.isWrite field = false)
    (s : State) (rd : Reg) (src : XWord) :
    (s.accessMseccfg rd op field src).sseed = s.sseed ∧
      (s.accessMseccfg rd op field src).useed = s.useed := by
  rw [accessMseccfg_sseed, accessMseccfg_useed, h]
  exact ⟨rfl, rfl⟩

theorem accessMnoise_dead (s : State) (rd : Reg) (op : CsrOp) (field : BitVec 5) (src : XWord) :
    (s.accessMnoise rd op field src).es.dead = s.es.dead := by
  rw [accessMnoise_es]
  split <;> rfl

theorem accessMnoise_noiseTest (s : State) (rd : Reg) (op : CsrOp) (field : BitVec 5) (src : XWord) :
    (s.accessMnoise rd op field src).es.noiseTest =
      if op.isWrite field then newBit op s.es.noiseTest (src.getLsbD 31) else s.es.noiseTest := by
  rw [accessMnoise_es, ← mnoise_getLsbD_31, ← newValue_getLsbD op _ _ (by decide)]
  split <;> simp only [mnoise_getLsbD_31]

/-! ## The two statements -/

theorem exec_mseccfg_of_m {f : CsrForm} {s : State} (h : s.cfg.csrAt f.csr = some .mseccfg)
    (hm : s.priv = .m) :
    exec f.instr s = .next (s.accessMseccfg f.rd f.op f.field (f.source s)) := by
  rw [exec_form_mseccfg f s h, machineOnly_of_m hm]

theorem exec_mnoise_of_m {f : CsrForm} {s : State} (h : s.cfg.csrAt f.csr = some .mnoise)
    (hm : s.priv = .m) :
    exec f.instr s = .next (s.accessMnoise f.rd f.op f.field (f.source s)) := by
  rw [exec_form_mnoise f s h, machineOnly_of_m hm]

/-- Settles O40: the state after the access is written out, and each conjunct is one of its lemmas. -/
theorem mseccfgResults : Obligations.MseccfgResults := by
  intro f s hcsr hseed hexists hm
  have hat : s.cfg.csrAt f.csr = some .mseccfg := by rw [hcsr]; exact csrAt_mseccfgAddr hseed hexists
  have hwrites := accessMseccfg_writesOne s f.rd f.op f.field (f.source s)
  have hadv := accessMseccfg_advances s f.rd f.op f.field (f.source s)
  refine ⟨_, exec_mseccfg_of_m hat hm, fun hrd k hk => ?_,
    fun hr => accessMseccfg_bits_of_read hr s f.rd (f.source s),
    fun hw => ⟨accessMseccfg_sseed_of_write hw s f.rd (f.source s),
      accessMseccfg_useed_of_write hw s f.rd (f.source s)⟩,
    by rw [hadv.pc, nextPc_toNat], hwrites.onlyRegister, hwrites.cfg, hadv.priv, hadv.virt,
    accessMseccfg_es .., hwrites.mem, accessMseccfg_draws ..⟩
  rw [hwrites.readX_rd hrd (mseccfg_lt ..), mseccfg_getLsbD, decide_eq_true hk, Bool.true_and]

/-- Settles O43: as for `mseccfg`, with the unspecified bits of the value read left free. -/
theorem mnoiseResults : Obligations.MnoiseResults := by
  intro f s hc hcsr hm
  have hwrites := accessMnoise_writesOne s f.rd f.op f.field (f.source s)
  refine ⟨_, exec_mnoise_of_m (csrAt_mnoise hc hcsr) hm, fun hrd => ?_, accessMnoise_dead ..,
    accessMnoise_noiseTest .., nextPc_toNat s, hwrites.onlyRegister, rfl, rfl, rfl, rfl, rfl, rfl, rfl⟩
  rw [hwrites.readX_rd hrd (zextX_lt ..)]
  exact ⟨zextX_lt .rv32 _, mnoise_getLsbD_31 s⟩

end Sys2Proof.Proofs
end

section
/-! The fetch and what a step makes of it (spec/20_memory.md R52; spec/60_exceptions.md R259, R272): the four
bytes read from `pc` on, the two faults that stop the fetch, and the step after each. -/

namespace Sys2Proof.Proofs

open Sys2Proof.Machine

/-! ## Reading bytes -/

section
variable {s : State} {a : XWord} {n : Nat}

theorem readBytes_succ_of_some {bs : List Byte} {b : Byte} (h : s.readBytes a n = .ok bs)
    (hb : s.mem.read (addrAt s.cfg.xlen a n) = some b) : s.readBytes a (n + 1) = .ok (bs ++ [b]) := by
  simp only [State.readBytes, h, hb]

theorem readBytes_succ_of_none {bs : List Byte} (h : s.readBytes a n = .ok bs)
    (hb : s.mem.read (addrAt s.cfg.xlen a n) = none) :
    s.readBytes a (n + 1) = .error (addrAt s.cfg.xlen a n) := by
  simp only [State.readBytes, h, hb]

theorem readBytes_succ_of_error {e : Nat} (h : s.readBytes a n = .error e) :
    s.readBytes a (n + 1) = .error e := by
  simp only [State.readBytes, h]

theorem readBytes_ok_of_present (h : ∀ j < n, s.mem.read (addrAt s.cfg.xlen a j) ≠ none) :
    ∃ bs, s.readBytes a n = .ok bs := by
  induction n with
  | zero => exact ⟨[], rfl⟩
  | succ n ih =>
    obtain ⟨bs, hbs⟩ := ih fun j hj => h j (Nat.lt_succ_of_lt hj)
    obtain ⟨b, hb⟩ := Option.ne_none_iff_exists'.1 (h n n.lt_succ_self)
    exact ⟨_, readBytes_succ_of_some hbs hb⟩

/-- The first address without a byte is the one reported, however many bytes were asked for past it. -/
theorem readBytes_of_first_absent {k : Nat} (hk : k < n)
    (hpresent : ∀ j < k, s.mem.read (addrAt s.cfg.xlen a j) ≠ none)
    (habsent : s.mem.read (addrAt s.cfg.xlen a k) = none) :
    s.readBytes a n = .error (addrAt s.cfg.xlen a k) := by
  induction n, hk using Nat.le_induction with
  | base =>
    obtain ⟨bs, hbs⟩ := readBytes_ok_of_present hpresent
    exact readBytes_succ_of_none hbs habsent
  | succ n _ ih => exact readBytes_succ_of_error ih

end

/-! ## The fetch -/

theorem fetch_of_misaligned {s : State} (h : s.pc.toNat % s.cfg.pcAlign ≠ 0) :
    fetch s = .error (.fetchMisaligned s.pc) := by
  rw [fetch, if_neg h]

theorem fetch_of_readBytes_ok {s : State} {bs : List Byte} (h : s.pc.toNat % s.cfg.pcAlign = 0)
    (hbs : s.readBytes s.pc 4 = .ok bs) : fetch s = .ok (wordOfList bs) := by
  simp only [fetch, if_pos h, hbs]

theorem fetch_of_readBytes_error {s : State} {e : Nat} (h : s.pc.toNat % s.cfg.pcAlign = 0)
    (he : s.readBytes s.pc 4 = .error e) : fetch s = .error (.fetchAbsent e) := by
  simp only [fetch, if_pos h, he]

theorem fetch_of_holdsAtPc {s : State} {b0 b1 b2 b3 : Byte} (h : holdsAtPc s b0 b1 b2 b3) :
    fetch s = .ok (wordOfList [b0, b1, b2, b3]) := by
  obtain ⟨haligned, h0, h1, h2, h3⟩ := h
  have hone : s.readBytes s.pc 1 = .ok [b0] := readBytes_succ_of_some rfl h0
  have htwo : s.readBytes s.pc 2 = .ok [b0, b1] := readBytes_succ_of_some hone h1
  have hthree : s.readBytes s.pc 3 = .ok [b0, b1, b2] := readBytes_succ_of_some htwo h2
  exact fetch_of_readBytes_ok haligned (readBytes_succ_of_some hthree h3)

/-! ## The step after the fetch -/

theorem step_of_fetch_error {s : State} {f : Fault} (h : fetch s = .error f) : step s = .fault f := by
  simp only [step, h]

theorem step_of_instr {s : State} {w : Word32} {i : Instr} (h : fetch s = .ok w)
    (hi : decodeWord s.cfg w = .instr i) : step s = exec i s := by
  simp only [step, h, hi]

/-- Settles O5: the word fetched is the one `decode` makes of the four bytes. -/
theorem stepRunsDecodedInstruction : Obligations.StepRunsDecodedInstruction := by
  intro s b0 b1 b2 b3 i hbytes hdecode
  have hword : decodeWord s.cfg (wordOfList [b0, b1, b2, b3]) = .instr i := hdecode
  exact step_of_instr (fetch_of_holdsAtPc hbytes) hword

/-- Settles O7: either fault of the fetch is the outcome of the step. -/
theorem fetchFaultsComeFirst : Obligations.FetchFaultsComeFirst := by
  refine fun s => ⟨fun hmisaligned => ?_, fun haligned k hk hpresent habsent => ?_⟩
  · exact step_of_fetch_error (fetch_of_misaligned hmisaligned)
  · have hread := readBytes_of_first_absent hk hpresent habsent
    exact step_of_fetch_error (fetch_of_readBytes_error haligned hread)

end Sys2Proof.Proofs
end

section
/-! The rows of the decode table (spec/30_encoding.md R72 to R86), format by format: the mask and the fields of
a row cover the word, so encoding what a row reads gives the word back, and the operands do not bear on the
widths an instruction exists at. -/

namespace Sys2Proof.Proofs

/-! ## The fields of a word in their places -/

/-- A field read from a word and put back in its place is the word under the mask of that place. -/
theorem field_in_place {n : Nat} (w : Word32) (pos : Nat) (h : pos + n ≤ 32) :
    (w.extractLsb' pos n).setWidth 32 <<< pos = w &&& (BitVec.allOnes n).setWidth 32 <<< pos := by
  apply BitVec.eq_of_getLsbD_eq
  intro k hk
  simp only [BitVec.getLsbD_shiftLeft, BitVec.getLsbD_setWidth, BitVec.getLsbD_extractLsb',
    BitVec.getLsbD_and, BitVec.getLsbD_allOnes]
  by_cases hpos : k < pos
  · simp [hpos]
  · have hplace : pos + (k - pos) = k := by omega
    have hword : k - pos < 32 := by omega
    simp [hpos, hplace, hword, hk, Bool.and_comm]

/-- The masks of a format leave no bit of the word out. -/
theorem and_of_covers {w m : Word32} (h : m = BitVec.allOnes 32) : w &&& m = w := by
  rw [h, BitVec.and_allOnes]

/-! ## One lemma per format -/

/-- The row exists at a width, read off the instruction it builds from the word 0. -/
def rowOnXlen (x : Xlen) (r : DecodeRow) : Bool := (r.build 0).onXlen x

/-- The row reads a word faithfully. -/
structure Faithful (r : DecodeRow) : Prop where
  /-- The operands do not bear on the widths. -/
  widths : ∀ w x, (r.build w).onXlen x = rowOnXlen x r
  /-- No bit is dropped: what the row reads from a word that has its pattern is encoded as that word. -/
  encodes : ∀ w, w &&& r.mask = r.pattern → encode (r.build w) = w

section
variable {p : Word32}

theorem rowR_faithful {k : Reg → Reg → Reg → Instr}
    (hx : ∀ rd rs1 rs2 x, (k rd rs1 rs2).onXlen x = (k 0 0 0).onXlen x := by intros; rfl)
    (he : ∀ rd rs1 rs2, encode (k rd rs1 rs2) = encR p rd rs1 rs2 := by intros; rfl) :
    Faithful (rowR p k) where
  widths _ _ := hx ..
  encodes w hw := by
    obtain rfl : w &&& 0xFE00707F = p := hw
    simp only [rowR, he, encR, fieldRd, fieldRs1, fieldRs2, Nat.reduceAdd, Nat.reduceLeDiff,
      field_in_place, ← BitVec.and_or_distrib_left]
    exact and_of_covers (by decide)

theorem rowBs_faithful {k : Reg → Reg → Reg → BitVec 2 → Instr}
    (hx : ∀ rd rs1 rs2 bs x, (k rd rs1 rs2 bs).onXlen x = (k 0 0 0 0).onXlen x := by intros; rfl)
    (he : ∀ rd rs1 rs2 bs, encode (k rd rs1 rs2 bs) = encBs p rd rs1 rs2 bs := by intros; rfl) :
    Faithful (rowBs p k) where
  widths _ _ := hx ..
  encodes w hw := by
    obtain rfl : w &&& 0x3E00707F = p := hw
    simp only [rowBs, he, encBs, encR, fieldRd, fieldRs1, fieldRs2, fieldBs, Nat.reduceAdd,
      Nat.reduceLeDiff, field_in_place, ← BitVec.and_or_distrib_left]
    exact and_of_covers (by decide)

theorem rowI_faithful {k : Reg → Reg → Instr}
    (hx : ∀ rd rs1 x, (k rd rs1).onXlen x = (k 0 0).onXlen x := by intros; rfl)
    (he : ∀ rd rs1, encode (k rd rs1) = encI p rd rs1 := by intros; rfl) :
    Faithful (rowI p k) where
  widths _ _ := hx ..
  encodes w hw := by
    obtain rfl : w &&& 0xFFF0707F = p := hw
    simp only [rowI, he, encI, fieldRd, fieldRs1, Nat.reduceAdd, Nat.reduceLeDiff, field_in_place,
      ← BitVec.and_or_distrib_left]
    exact and_of_covers (by decide)

theorem rowShamt5_faithful {k : Reg → Reg → BitVec 5 → Instr}
    (hx : ∀ rd rs1 sh x, (k rd rs1 sh).onXlen x = (k 0 0 0).onXlen x := by intros; rfl)
    (he : ∀ rd rs1 sh, encode (k rd rs1 sh) = encShamt5 p rd rs1 sh := by intros; rfl) :
    Faithful (rowShamt5 p k) :=
  rowR_faithful hx he

theorem rowShamt6_faithful {k : Reg → Reg → BitVec 6 → Instr}
    (hx : ∀ rd rs1 sh x, (k rd rs1 sh).onXlen x = (k 0 0 0).onXlen x := by intros; rfl)
    (he : ∀ rd rs1 sh, encode (k rd rs1 sh) = encShamt6 p rd rs1 sh := by intros; rfl) :
    Faithful (rowShamt6 p k) where
  widths _ _ := hx ..
  encodes w hw := by
    obtain rfl : w &&& 0xFC00707F = p := hw
    simp only [rowShamt6, he, encShamt6, encI, fieldRd, fieldRs1, fieldShamt6, Nat.reduceAdd,
      Nat.reduceLeDiff, field_in_place, ← BitVec.and_or_distrib_left]
    exact and_of_covers (by decide)

theorem rowRnum_faithful {k : Reg → Reg → BitVec 4 → Instr}
    (hx : ∀ rd rs1 rnum x, (k rd rs1 rnum).onXlen x = (k 0 0 0).onXlen x := by intros; rfl)
    (he : ∀ rd rs1 rnum, encode (k rd rs1 rnum) = encRnum p rd rs1 rnum := by intros; rfl) :
    Faithful (rowRnum p k) where
  widths _ _ := hx ..
  encodes w hw := by
    obtain rfl : w &&& 0xFF00707F = p := hw
    simp only [rowRnum, he, encRnum, encI, fieldRd, fieldRs1, fieldRnum, Nat.reduceAdd,
      Nat.reduceLeDiff, field_in_place, ← BitVec.and_or_distrib_left]
    exact and_of_covers (by decide)

theorem rowCsr_faithful {k : Reg → CsrAddr → BitVec 5 → Instr}
    (hx : ∀ rd csr src x, (k rd csr src).onXlen x = (k 0 0 0).onXlen x := by intros; rfl)
    (he : ∀ rd csr src, encode (k rd csr src) = encCsr p rd csr src := by intros; rfl) :
    Faithful (rowCsr p k) where
  widths _ _ := hx ..
  encodes w hw := by
    obtain rfl : w &&& 0x0000707F = p := hw
    simp only [rowCsr, he, encCsr, encI, fieldRd, fieldRs1, fieldCsr, Nat.reduceAdd,
      Nat.reduceLeDiff, field_in_place, ← BitVec.and_or_distrib_left]
    exact and_of_covers (by decide)

end

/-! ## The table, row by row -/

theorem rowsOpA_faithful : ∀ r ∈ rowsOpA, Faithful r := by
  simp only [rowsOpA, List.forall_mem_cons]
  exact ⟨rowBs_faithful, rowBs_faithful, rowBs_faithful, rowBs_faithful, rowBs_faithful, rowR_faithful,
    rowBs_faithful, rowR_faithful, rowR_faithful, rowR_faithful, rowR_faithful, rowR_faithful,
    rowR_faithful, rowR_faithful, nofun⟩

theorem rowsOpB_faithful : ∀ r ∈ rowsOpB, Faithful r := by
  simp only [rowsOpB, List.forall_mem_cons]
  exact ⟨rowR_faithful, rowR_faithful, rowR_faithful, rowR_faithful, rowR_faithful, rowR_faithful,
    rowR_faithful, rowR_faithful, rowR_faithful, rowR_faithful, rowR_faithful, rowR_faithful,
    rowR_faithful, rowR_faithful, nofun⟩

theorem rowsOp32_faithful : ∀ r ∈ rowsOp32, Faithful r := by
  simp only [rowsOp32, List.forall_mem_cons]
  exact ⟨rowR_faithful, rowR_faithful, rowR_faithful, nofun⟩

theorem rowsOpImmA_faithful : ∀ r ∈ rowsOpImmA, Faithful r := by
  simp only [rowsOpImmA, List.forall_mem_cons]
  exact ⟨rowI_faithful, rowI_faithful, rowI_faithful, rowI_faithful, rowI_faithful, rowI_faithful,
    rowI_faithful, rowI_faithful, rowI_faithful, rowI_faithful, rowI_faithful, rowI_faithful,
    rowRnum_faithful, rowI_faithful, nofun⟩

theorem rowsOpImmB_faithful : ∀ r ∈ rowsOpImmB, Faithful r := by
  simp only [rowsOpImmB, List.forall_mem_cons]
  exact ⟨rowShamt5_faithful, rowShamt6_faithful, rowI_faithful, rowI_faithful, rowI_faithful, nofun⟩

theorem rowsOpImm32_faithful : ∀ r ∈ rowsOpImm32, Faithful r := by
  simp only [rowsOpImm32, List.forall_mem_cons]
  exact ⟨rowShamt5_faithful, nofun⟩

theorem rowsSystem_faithful : ∀ r ∈ rowsSystem, Faithful r := by
  simp only [rowsSystem, List.forall_mem_cons]
  exact ⟨rowCsr_faithful, rowCsr_faithful, rowCsr_faithful, rowCsr_faithful, rowCsr_faithful,
    rowCsr_faithful, nofun⟩

theorem decodeRows_faithful : ∀ r ∈ decodeRows, Faithful r := by
  simp only [decodeRows, List.forall_mem_append]
  exact ⟨⟨⟨⟨⟨⟨rowsOpA_faithful, rowsOpB_faithful⟩, rowsOp32_faithful⟩, rowsOpImmA_faithful⟩,
    rowsOpImmB_faithful⟩, rowsOpImm32_faithful⟩, rowsSystem_faithful⟩

end Sys2Proof.Proofs
end

section
/-! The walk of the decode table (spec/30_encoding.md R80 to R86). Two rows of one XLEN fix a common bit
differently, so a word that selects a row selects no other; what the walk answers for a word follows from any
row that the word selects. -/

namespace Sys2Proof.Proofs

open Sys2Proof.Machine Sys2Proof.Laws

/-! ## Rows of one XLEN exclude each other -/

/-- A word under two patterns makes them agree on the bits that both masks fix. -/
theorem patterns_agree {w m m' p p' : Word32} (h : w &&& m = p) (h' : w &&& m' = p') :
    p &&& m' = p' &&& m := by
  rw [← h, ← h', BitVec.and_assoc, BitVec.and_assoc, BitVec.and_comm m]

theorem matchesWord_iff {r : DecodeRow} {w : Word32} :
    r.matchesWord w = true ↔ w &&& r.mask = r.pattern := beq_iff_eq

/-- Two rows of one XLEN disagree on a bit that both masks fix. -/
theorem decodeRows_disagree (x : Xlen) : decodeRows.Pairwise fun r r' =>
    rowOnXlen x r = true → rowOnXlen x r' = true → r.pattern &&& r'.mask ≠ r'.pattern &&& r.mask := by
  cases x <;> decide

/-- The word selects the row (R85): it has its pattern, and the row exists at the XLEN. -/
structure Selects (x : Xlen) (w : Word32) (r : DecodeRow) : Prop where
  pattern : r.matchesWord w = true
  width : (r.build w).onXlen x = true

/-- A word that selects a row selects no later one. -/
theorem not_selects_later {x : Xlen} {w : Word32} {m n : Nat} {r r' : DecodeRow} (hmn : m < n)
    (hm : decodeRows[m]? = some r) (hn : decodeRows[n]? = some r') (h : Selects x w r) :
    ¬ Selects x w r' := by
  intro h'
  have hwidth := (decodeRows_faithful r (List.mem_of_getElem? hm)).widths w x ▸ h.width
  have hwidth' := (decodeRows_faithful r' (List.mem_of_getElem? hn)).widths w x ▸ h'.width
  obtain ⟨hlt, rfl⟩ := List.getElem?_eq_some_iff.1 hm
  obtain ⟨hlt', rfl⟩ := List.getElem?_eq_some_iff.1 hn
  exact List.pairwise_iff_getElem.1 (decodeRows_disagree x) m n hlt hlt' hmn hwidth hwidth'
    (patterns_agree (matchesWord_iff.1 h.pattern) (matchesWord_iff.1 h'.pattern))

/-- Settles O3: of two different places in the table, the earlier excludes the later. -/
theorem decodeRowsDisjoint : Obligations.DecodeRowsDisjoint := by
  intro x w m n r r' hm hn hpat hwidth hpat' hwidth'
  have h : Selects x w r := ⟨hpat, hwidth⟩
  have h' : Selects x w r' := ⟨hpat', hwidth'⟩
  rcases Nat.lt_trichotomy m n with hlt | heq | hgt
  · exact absurd h' (not_selects_later hlt hm hn h)
  · exact heq
  · exact absurd h (not_selects_later hgt hn hm h')

theorem selects_unique {x : Xlen} {w : Word32} {r r' : DecodeRow} (hr : r ∈ decodeRows)
    (hr' : r' ∈ decodeRows) (h : Selects x w r) (h' : Selects x w r') : r = r' := by
  obtain ⟨m, hm⟩ := List.mem_iff_getElem?.1 hr
  obtain ⟨n, hn⟩ := List.mem_iff_getElem?.1 hr'
  have hmn : m = n := decodeRowsDisjoint x w m n r r' hm hn h.pattern h.width h'.pattern h'.width
  subst hmn
  exact Option.some.inj (hm.symm.trans hn)

/-! ## What the walk answers -/

/-- Either the word selects a row, which decides the answer, or it selects none. -/
theorem decodeWord_cases (c : Config) (w : Word32) :
    (∃ r ∈ decodeRows, Selects c.xlen w r ∧ decodeWord c w = checkDecoded c (r.build w)) ∨
      ((∀ r ∈ decodeRows, ¬ Selects c.xlen w r) ∧
        decodeWord c w = .rejected (rejectReason c w)) := by
  unfold decodeWord
  split
  · next r hfind =>
    have hsel := List.find?_some hfind
    rw [Bool.and_eq_true] at hsel
    exact .inl ⟨r, List.mem_of_find?_eq_some hfind, ⟨hsel.1, hsel.2⟩, rfl⟩
  · next hfind =>
    refine .inr ⟨fun r hr hsel => ?_, rfl⟩
    exact List.find?_eq_none.1 hfind r hr (Bool.and_eq_true_iff.2 ⟨hsel.pattern, hsel.width⟩)

/-- Whichever row the walk finds, it is the one the word is known to select. -/
theorem decodeWord_of_selects {c : Config} {w : Word32} {r : DecodeRow} (hr : r ∈ decodeRows)
    (h : Selects c.xlen w r) : decodeWord c w = checkDecoded c (r.build w) := by
  obtain ⟨r', hr', h', hdec⟩ | ⟨hnone, -⟩ := decodeWord_cases c w
  · rw [hdec, selects_unique hr hr' h h']
  · exact absurd h (hnone r hr)

theorem decodeWord_of_no_row {c : Config} {w : Word32} (h : ∀ r ∈ decodeRows, ¬ Selects c.xlen w r) :
    decodeWord c w = .rejected (rejectReason c w) := by
  obtain ⟨r, hr, hsel, -⟩ | ⟨-, hdec⟩ := decodeWord_cases c w
  · exact absurd hsel (h r hr)
  · exact hdec

/-- The checks after the walk pass the instruction through, or reject it. -/
theorem checkDecoded_eq_instr_iff {c : Config} {i j : Instr} :
    checkDecoded c i = .instr j ↔ i = j ∧ i.inExt c.ext = true ∧ i.operandsOk c = true := by
  unfold checkDecoded
  cases hext : i.inExt c.ext <;> cases hops : i.operandsOk c <;> simp

theorem checkDecoded_of_not_inExt {c : Config} {i : Instr} (h : i.inExt c.ext = false) :
    checkDecoded c i = .rejected .extensionAbsent := by
  rw [checkDecoded, h, if_neg Bool.false_ne_true]

theorem checkDecoded_of_reserved {c : Config} {i : Instr} (h : i.inExt c.ext = true)
    (hops : i.operandsOk c = false) :
    checkDecoded c i = .rejected (if i.isCsr then .absentCsr else .reservedRnum) := by
  rw [checkDecoded, if_pos h, hops, if_neg Bool.false_ne_true]

theorem wellFormed_iff {c : Config} {i : Instr} : i.wellFormed c = true ↔
    i.onXlen c.xlen = true ∧ i.inExt c.ext = true ∧ i.operandsOk c = true := by
  rw [Instr.wellFormed, Bool.and_eq_true, Bool.and_eq_true, and_assoc]

/-! ## Decoding an encoding -/

/-- Every instruction has a row: the lemma of `Laws/PerInstr` for its constructor. -/
theorem encodesRow (i : Instr) : EncodesRow.Statement i :=
  i.casesOn EncodesRow.andn EncodesRow.orn EncodesRow.xnor EncodesRow.rol EncodesRow.rolw
    EncodesRow.ror EncodesRow.roriRv32 EncodesRow.roriRv64 EncodesRow.roriw EncodesRow.rorw
    EncodesRow.pack EncodesRow.packh EncodesRow.packw EncodesRow.brev8 EncodesRow.rev8Rv32
    EncodesRow.rev8Rv64 EncodesRow.zip EncodesRow.unzip EncodesRow.clmul EncodesRow.clmulh
    EncodesRow.xperm8 EncodesRow.xperm4 EncodesRow.aes32dsi EncodesRow.aes32dsmi
    EncodesRow.aes32esi EncodesRow.aes32esmi EncodesRow.aes64ds EncodesRow.aes64dsm
    EncodesRow.aes64es EncodesRow.aes64esm EncodesRow.aes64im EncodesRow.aes64ks1i
    EncodesRow.aes64ks2 EncodesRow.sha256sig0 EncodesRow.sha256sig1 EncodesRow.sha256sum0
    EncodesRow.sha256sum1 EncodesRow.sha512sig0h EncodesRow.sha512sig0l EncodesRow.sha512sig1h
    EncodesRow.sha512sig1l EncodesRow.sha512sum0r EncodesRow.sha512sum1r EncodesRow.sha512sig0
    EncodesRow.sha512sig1 EncodesRow.sha512sum0 EncodesRow.sha512sum1 EncodesRow.sm4ed
    EncodesRow.sm4ks EncodesRow.sm3p0 EncodesRow.sm3p1 EncodesRow.csrrw EncodesRow.csrrs
    EncodesRow.csrrc EncodesRow.csrrwi EncodesRow.csrrsi EncodesRow.csrrci

/-- The word of an instruction that exists at the XLEN decodes to it, up to the checks after the walk. -/
theorem decodeWord_encode {c : Config} {i : Instr} (h : i.onXlen c.xlen = true) :
    decodeWord c (encode i) = checkDecoded c i := by
  obtain ⟨r, hr, hpat, hbuild⟩ := encodesRow i
  rw [decodeWord_of_selects hr ⟨hpat, hbuild.symm ▸ h⟩, hbuild]

/-- Settles O1: the row of the instruction is the one the walk selects, and the checks pass. -/
theorem decodeOfEncode : Obligations.DecodeOfEncode := by
  intro c i hwf
  obtain ⟨hwidth, hext, hops⟩ := wellFormed_iff.1 hwf
  rw [decodeWord_encode hwidth]
  exact checkDecoded_eq_instr_iff.2 ⟨rfl, hext, hops⟩

theorem decodeWord_of_encode_eq {c : Config} {w : Word32} {i : Instr} (hword : encode i = w)
    (hwf : i.wellFormed c = true) : decodeWord c w = .instr i :=
  hword ▸ decodeOfEncode c i hwf

/-- Settles O2: the row that the walk selects drops no bit of the word. -/
theorem encodeOfDecode : Obligations.EncodeOfDecode := by
  intro c w i hdec
  obtain ⟨r, hr, hsel, hwalk⟩ | ⟨-, hwalk⟩ := decodeWord_cases c w
  · obtain ⟨rfl, hext, hops⟩ := checkDecoded_eq_instr_iff.1 (hwalk.symm.trans hdec)
    exact ⟨(decodeRows_faithful r hr).encodes w (matchesWord_iff.1 hsel.pattern),
      wellFormed_iff.2 ⟨hsel.width, hext, hops⟩⟩
  · cases hwalk.symm.trans hdec

/-- Settles O4: each word is the encoding of its instruction, which the configuration has. -/
theorem specWordsDecode : Obligations.SpecWordsDecode := by
  refine ⟨?_, ?_, ?_, ?_, ?_, ?_, ?_, ?_, ?_, ?_, ?_, ?_, ?_, ?_, ?_⟩ <;>
    exact decodeWord_of_encode_eq (by decide) (by decide)

end Sys2Proof.Proofs
end

section
/-! The step and the composed step at words that are no instruction here (spec/30_encoding.md R86, R90;
spec/60_exceptions.md R251, R260, R272): which rejection a reserved or absent word gets, and that a machine of
this spec alone traps on all of them where a composed one hands some to its base machine. -/

namespace Sys2Proof.Proofs

open Sys2Proof.Machine Sys2Proof.Laws

/-! ## Reserved round numbers of `aes64ks1i` -/

theorem fieldRnum_toNat (w : Word32) : (fieldRnum w).toNat = ((w >>> 20) &&& 0xF).toNat := by
  have hmask : (0xF : Word32).toNat = 2 ^ 4 - 1 := rfl
  rw [fieldRnum, BitVec.extractLsb'_toNat, BitVec.toNat_and, BitVec.toNat_ushiftRight, hmask,
    Nat.and_two_pow_sub_one_eq_mod]

theorem operandsOk_aes64ks1i_of_reserved {w : Word32} (h : 0xA < (w >>> 20) &&& 0xF) (c : Config)
    (rd rs1 : Reg) : (Instr.aes64ks1i rd rs1 (fieldRnum w)).operandsOk c = false := by
  rw [BitVec.lt_def, ← fieldRnum_toNat] at h
  exact decide_eq_false (BitVec.not_le.2 h)

theorem decodeWord_aes64ks1i {c : Config} {w : Word32} (hx : c.xlen = .rv64)
    (hw : w &&& 0xFF00707F = 0x31001013) :
    decodeWord c w = checkDecoded c (.aes64ks1i (fieldRd w) (fieldRs1 w) (fieldRnum w)) := by
  have hrow : decodeRows[43]? = some (rowRnum 0x31001013 .aes64ks1i) := rfl
  refine decodeWord_of_selects (List.mem_of_getElem? hrow) ⟨matchesWord_iff.2 hw, ?_⟩
  rw [hx]
  rfl

theorem exists_checkDecoded_rejected {c : Config} {i : Instr} (h : i.operandsOk c = false) :
    ∃ q, checkDecoded c i = .rejected q := by
  cases hext : i.inExt c.ext with
  | false => exact ⟨_, checkDecoded_of_not_inExt hext⟩
  | true => exact ⟨_, checkDecoded_of_reserved hext h⟩

/-! ## The reserved `rori` of RV32 -/

/-- The pattern of R86 (b) disagrees with every row of RV32 on a bit that both fix. -/
theorem reservedRori_disagrees : ∀ r ∈ decodeRows, rowOnXlen .rv32 r = true →
    (0x62005013 : Word32) &&& r.mask ≠ r.pattern &&& 0xFE00707F := by
  decide

theorem decodeWord_reservedRori {c : Config} {w : Word32} (hx : c.xlen = .rv32)
    (hw : w &&& 0xFE00707F = 0x62005013) : decodeWord c w = .rejected (rejectReason c w) := by
  refine decodeWord_of_no_row fun r hr hsel => ?_
  rw [hx] at hsel
  have hwidth := (decodeRows_faithful r hr).widths w .rv32 ▸ hsel.width
  exact reservedRori_disagrees r hr hwidth (patterns_agree hw (matchesWord_iff.1 hsel.pattern))

/-! ## CSR instructions at an address without a CSR -/

theorem form_onXlen (f : CsrForm) (x : Xlen) : f.instr.onXlen x = true := by
  obtain ⟨op, imm, rd, csr, field⟩ := f
  cases op <;> cases imm <;> rfl

theorem form_inExt (f : CsrForm) (e : Ext) : f.instr.inExt e = true := by
  rw [Instr.inExt, instr_isCsr, Bool.true_or]

theorem form_operandsOk (f : CsrForm) (c : Config) :
    f.instr.operandsOk c = (c.csrAt f.csr).isSome := by
  rw [← wellFormed_form, Instr.wellFormed, form_onXlen, form_inExt, Bool.true_and, Bool.true_and]

theorem decodeWord_form_of_absent {f : CsrForm} {c : Config} (h : c.csrAt f.csr = none) :
    decodeWord c (encode f.instr) = .rejected .absentCsr := by
  have hops : f.instr.operandsOk c = false := by rw [form_operandsOk, h]; rfl
  rw [decodeWord_encode (form_onXlen f _), checkDecoded_of_reserved (form_inExt f _) hops,
    if_pos (instr_isCsr f)]

theorem fieldCsr_encCsr {p : Word32} (hp : p.extractLsb' 20 12 = 0) (rd : Reg) (csr : CsrAddr)
    (src : BitVec 5) : fieldCsr (encCsr p rd csr src) = csr := by
  have hbase : (encI p rd src).extractLsb' 20 12 = 0 := by
    rw [encI, extract_or_other _ _ _ _ (by decide), extract_or_other _ _ _ _ (by decide), hp]
  exact extract_or_field _ csr 20 (by decide) hbase

theorem fieldCsr_encode_form (f : CsrForm) : fieldCsr (encode f.instr) = f.csr := by
  obtain ⟨op, imm, rd, csr, field⟩ := f
  cases op <;> cases imm <;> exact fieldCsr_encCsr (by decide) rd csr field

/-! ## The step at a rejected word -/

theorem step_of_rejected {s : State} {w : Word32} {q : Reject} (h : fetch s = .ok w)
    (hq : decodeWord s.cfg w = .rejected q) :
    step s = .fault (.trap ⟨.illegalInstruction, s.pc, w⟩) := by
  simp only [step, h, hq, raise_eq]

/-- Settles O6: the word fetched is the one `decode` makes of the four bytes. -/
theorem stepTrapsOnOtherWords : Obligations.StepTrapsOnOtherWords := by
  intro s b0 b1 b2 b3 q hbytes hdecode
  have hword : decodeWord s.cfg (wordOfList [b0, b1, b2, b3]) = .rejected q := hdecode
  exact step_of_rejected (fetch_of_holdsAtPc hbytes) hword

/-- Settles O8: a reserved round number fails the check of the operands, the reserved `rori` selects no
row. -/
theorem reservedWordsTrap : Obligations.ReservedWordsTrap := by
  refine fun s w hfetch => ⟨fun hx hw hrnum => ?_, fun hx hw => ?_⟩
  · obtain ⟨q, hq⟩ := exists_checkDecoded_rejected
      (operandsOk_aes64ks1i_of_reserved hrnum s.cfg (fieldRd w) (fieldRs1 w))
    exact step_of_rejected hfetch ((decodeWord_aes64ks1i hx hw).trans hq)
  · exact step_of_rejected hfetch (decodeWord_reservedRori hx hw)

/-! ## The composed step -/

section
variable {base : BaseStep} {entry : TrapEntry} {s : State} {w : Word32}

theorem stepComposed_of_instr {i : Instr} (h : fetch s = .ok w) (hi : decodeWord s.cfg w = .instr i) :
    stepComposed base entry s = deliver entry s (exec i s) := by
  simp only [stepComposed, h, hi]

theorem stepComposed_of_handed {q : Reject} (h : fetch s = .ok w)
    (hq : decodeWord s.cfg w = .rejected q) (hbase : forBase q w = true) :
    stepComposed base entry s = deliver entry s (base w s) := by
  simp only [stepComposed, h, hq, hbase, if_true]

theorem stepComposed_of_kept {q : Reject} (h : fetch s = .ok w)
    (hq : decodeWord s.cfg w = .rejected q) (hbase : forBase q w = false) :
    stepComposed base entry s = .next (entry s s.cfg.causeIllegal s.pc w) := by
  simp only [stepComposed, h, hq, hbase, Bool.false_eq_true, if_false]
  rfl

end

theorem aes64ks1i_inExt {e : Ext} (h : e.zkne = true ∨ e.zknd = true) (rd rs1 : Reg)
    (rnum : BitVec 4) : (Instr.aes64ks1i rd rs1 rnum).inExt e = true := by
  rcases h with h | h <;> simp [Instr.inExt, Instr.extensions, Ext.has, h]

theorem csrAt_seed_of_not_zkr {c : Config} (h : c.ext.zkr = false) : c.csrAt 0x015 = none := by
  have hseed : (0x015 : CsrAddr) = seedAddr := rfl
  rw [Config.csrAt, if_pos hseed, h, if_neg Bool.false_ne_true]

/-- Settles O57: the outcome of an instruction is delivered as it is, and its trap carries the word that was
fetched, since a word that decodes is the encoding of what it decodes to (O2). -/
theorem composedStepAgrees : Obligations.ComposedStepAgrees := by
  refine fun base entry s => ⟨fun t hstep => ?_, fun w i e hfetch hdec htrap => ?_,
    fun w hfetch hx hext hw hrnum => ?_, fun f hfetch hseed hzkr => ?_⟩
  · obtain ⟨w, i, hfetch, hdec, hexec⟩ := step_next hstep
    rw [stepComposed_of_instr hfetch hdec, hexec]
    rfl
  · obtain ⟨hword, -⟩ := encodeOfDecode s.cfg w i hdec
    rw [stepComposed_of_instr hfetch hdec, htrap, hword]
    cases e <;> rfl
  · have hrejected := checkDecoded_of_reserved (aes64ks1i_inExt hext (fieldRd w) (fieldRs1 w) _)
      (operandsOk_aes64ks1i_of_reserved hrnum s.cfg _ _)
    exact stepComposed_of_kept hfetch ((decodeWord_aes64ks1i hx hw).trans hrejected) rfl
  · have habsent : s.cfg.csrAt f.csr = none := hseed ▸ csrAt_seed_of_not_zkr hzkr
    refine stepComposed_of_kept hfetch (decodeWord_form_of_absent habsent) ?_
    rw [forBase, fieldCsr_encode_form, hseed]
    rfl

/-! ## What is handed to the base machine -/

/-- The word is rejected and is the base machine's. -/
def HandedOver (c : Config) (w : Word32) : Prop :=
  ∃ q, decodeWord c w = .rejected q ∧ forBase q w = true

theorem stepComposed_of_handedOver {s : State} {w : Word32} (base : BaseStep) (entry : TrapEntry)
    (hfetch : fetch s = .ok w) (h : HandedOver s.cfg w) :
    stepComposed base entry s = deliver entry s (base w s) := by
  obtain ⟨q, hq, hbase⟩ := h
  exact stepComposed_of_handed hfetch hq hbase

/-- Whatever the reason, a word that selects no row is the base machine's. -/
theorem forBase_rejectReason (c : Config) (w v : Word32) : forBase (rejectReason c w) v = true := by
  unfold rejectReason
  split_ifs <;> rfl

theorem handedOver_of_no_row {c : Config} {w : Word32}
    (h : ∀ r ∈ decodeRows, r.matchesWord w = true → (r.build w).onXlen c.xlen = true →
      (r.build w).inExt c.ext = false) : HandedOver c w := by
  obtain ⟨r, hr, hsel, hwalk⟩ | ⟨-, hwalk⟩ := decodeWord_cases c w
  · have hext := h r hr hsel.pattern hsel.width
    exact ⟨.extensionAbsent, hwalk.trans (checkDecoded_of_not_inExt hext), rfl⟩
  · exact ⟨_, hwalk, forBase_rejectReason c w w⟩

theorem handedOver_reservedRori {c : Config} {w : Word32} (hx : c.xlen = .rv32)
    (hw : w &&& 0xFE00707F = 0x62005013) : HandedOver c w :=
  ⟨_, decodeWord_reservedRori hx hw, forBase_rejectReason c w w⟩

theorem handedOver_absentCsr {c : Config} {f : CsrForm} (hseed : f.csr ≠ 0x015)
    (h : c.csrAt f.csr = none) : HandedOver c (encode f.instr) := by
  refine ⟨_, decodeWord_form_of_absent h, ?_⟩
  rw [forBase, fieldCsr_encode_form]
  exact bne_iff_ne.2 hseed

/-- Settles O58: each of the three kinds of word is handed over, and the base machine's answer is delivered
as it is. -/
theorem composedHandsOver : Obligations.ComposedHandsOver := by
  intro base entry s w hfetch hkind
  have hhanded : HandedOver s.cfg w := by
    obtain hnone | ⟨hx, hw⟩ | ⟨f, rfl, hseed, habsent⟩ := hkind
    · exact handedOver_of_no_row hnone
    · exact handedOver_reservedRori hx hw
    · exact handedOver_absentCsr hseed habsent
  rw [stepComposed_of_handedOver base entry hfetch hhanded]
  refine ⟨fun t ht => ?_, fun x hx => ?_⟩
  · rw [ht]
    rfl
  · rw [hx]
    rfl

end Sys2Proof.Proofs
end

section
/-! What a completed computational instruction leaves (spec/10_state.md R23 to R25), from the bits of its
value: the frame is that of `retire`, whatever the value. The operand forms of spec/30_encoding.md R72 to R79
are read at XLEN bits, so that one argument serves both widths. -/

namespace Sys2Proof.Proofs

open Sys2Proof.Machine Sys2Proof.Laws

/-! ## Widths and well-formedness -/

theorem bits_eq (x : Xlen) : x.bits = 32 ∨ x.bits = 64 := by
  cases x
  · exact .inl rfl
  · exact .inr rfl

theorem bits_le_64 (x : Xlen) : x.bits ≤ 64 := by
  have := bits_eq x
  omega

theorem wellFormed_of_extension {i : Instr} {c : Config} {e : ExtName} {x : Xlen}
    (hmem : e ∈ i.extensions) (he : c.ext.has e = true) (hx : c.xlen = x) (hon : i.onXlen x = true)
    (hops : i.operandsOk c = true) : i.wellFormed c = true :=
  wellFormed_iff.2 ⟨hx ▸ hon, Bool.or_eq_true_iff.2 (.inr (List.any_eq_true.2 ⟨e, hmem, he⟩)), hops⟩

/-! ## Values given bit by bit -/

/-- A value whose high bits are 0 fits. -/
theorem hasBits_lt {n m : Nat} {v : XWord} {f : Nat → Bool} (h : hasBits n v f) (hnm : n ≤ m) :
    v.toNat < 2 ^ m := by
  refine Nat.lt_pow_two_of_testBit _ fun k hk => ?_
  rw [BitVec.testBit_toNat]
  by_cases h64 : k < 64
  · rw [h k h64, decide_eq_false (by omega), Bool.false_and]
  · exact BitVec.getLsbD_of_ge v k (by omega)

theorem hasBits_setWidth {n : Nat} {v : BitVec n} {f : Nat → Bool} (h : ∀ k < n, v.getLsbD k = f k) :
    hasBits n (v.setWidth 64) f := by
  intro k hk
  rw [BitVec.getLsbD_setWidth, decide_eq_true hk, Bool.true_and]
  by_cases hn : k < n
  · rw [h k hn, decide_eq_true hn, Bool.true_and]
  · rw [BitVec.getLsbD_of_ge v k (by omega), decide_eq_false hn, Bool.false_and]

/-- Bits that are 0 need not be counted. -/
theorem hasBits_narrow {n m : Nat} {v : XWord} {f : Nat → Bool} (hmn : m ≤ n)
    (h : hasBits n v fun k => decide (k < m) && f k) : hasBits m v f := by
  intro k hk
  rw [h k hk, ← Bool.and_assoc]
  congr 1
  by_cases hm : k < m
  · simp [hm, show k < n by omega]
  · simp [hm]

/-- On RV32 the word is the whole value: there is nothing to extend. -/
theorem hasWordBits_rv32 {v : XWord} {f : Nat → Bool} :
    hasWordBits .rv32 v f ↔ hasBits 32 v f := by
  refine forall₂_congr fun k _ => ?_
  by_cases hk : k < 32
  · simp only [Nat.min_eq_left (Nat.le_of_lt_succ hk)]
    rfl
  · simp only [Xlen.bits, hk, decide_false, Bool.false_and]

theorem hasWordBits_rv64 {v : XWord} {f : Nat → Bool} :
    hasWordBits .rv64 v f ↔ ∀ k < 64, v.getLsbD k = f (min k 31) := by
  refine forall₂_congr fun k hk => ?_
  simp only [Xlen.bits, hk, decide_true, Bool.true_and]

theorem sextX_hasWordBits (x : Xlen) {v : Word32} {f : Nat → Bool} (h : ∀ k < 32, v.getLsbD k = f k) :
    hasWordBits x (sextX x v) f := by
  cases x with
  | rv32 => exact hasWordBits_rv32.2 (hasBits_setWidth h)
  | rv64 =>
    refine hasWordBits_rv64.2 fun k hk => ?_
    rw [sextX, BitVec.getLsbD_signExtend, decide_eq_true hk, Bool.true_and, BitVec.msb_eq_getLsbD_last]
    split
    · rw [h k ‹_›, Nat.min_eq_left (by omega)]
    · rw [h 31 (by decide), Nat.min_eq_right (by omega)]

/-- The bits above a sign-extended word repeat its bit 31. -/
theorem hasWordBits_high {v : XWord} {f : Nat → Bool} (h : hasWordBits .rv64 v f) {k : Nat}
    (hk : 32 ≤ k) (hk' : k < 64) : v.getLsbD k = v.getLsbD 31 := by
  have hbits := hasWordBits_rv64.1 h
  rw [hbits k hk', hbits 31 (by decide), Nat.min_eq_right (by omega), Nat.min_self]

/-! ## Registers at XLEN bits -/

/-- `x[r]` at exactly XLEN bits, outside its 64-bit home. -/
def regBits (s : State) (r : Reg) : BitVec s.cfg.xlen.bits :=
  (s.readX r).setWidth s.cfg.xlen.bits

theorem regBits_getLsbD (s : State) (r : Reg) {k : Nat} (hk : k < s.cfg.xlen.bits) :
    (regBits s r).getLsbD k = (s.readX r).getLsbD k := by
  rw [regBits, BitVec.getLsbD_setWidth, decide_eq_true hk, Bool.true_and]

theorem regBits_toNat (s : State) (r : Reg) : (regBits s r).toNat = (s.readX r).toNat := by
  rw [regBits, BitVec.toNat_setWidth, Nat.mod_eq_of_lt (readX_lt s r)]

theorem readW_getLsbD (s : State) (r : Reg) {k : Nat} (hk : k < 32) :
    (s.readW r).getLsbD k = (s.readX r).getLsbD k := by
  rw [State.readW, BitVec.getLsbD_setWidth, decide_eq_true hk, Bool.true_and]

/-- An operation of two registers is one operation at XLEN bits. -/
theorem opX2_eq_setWidth (F : (x : Xlen) → BitVec x.bits → BitVec x.bits → BitVec x.bits) (s : State)
    (rs1 rs2 : Reg) : s.opX2 (F .rv32) (F .rv64) rs1 rs2 =
      (F s.cfg.xlen (regBits s rs1) (regBits s rs2)).setWidth 64 := by
  unfold State.opX2 regBits State.readW zextX
  generalize s.cfg.xlen = x
  cases x with
  | rv32 => rfl
  | rv64 =>
    simp only [Xlen.bits, BitVec.setWidth_eq]
    exact (BitVec.setWidth_eq _).symm

/-- An operation of one register is one operation at XLEN bits. -/
theorem opX1_eq_setWidth (F : (x : Xlen) → BitVec x.bits → BitVec x.bits) (s : State) (rs1 : Reg) :
    s.opX1 (F .rv32) (F .rv64) rs1 = (F s.cfg.xlen (regBits s rs1)).setWidth 64 :=
  opX2_eq_setWidth (fun x a _ => F x a) s rs1 rs1

/-! ## Completion -/

section

variable {i : Instr} {s : State}

theorem completes_of_compute {v : XWord} {P : XWord → Prop} (hwf : i.wellFormed s.cfg = true)
    (hexec : exec i s = compute i v s) (hv : v.toNat < 2 ^ s.cfg.xlen.bits) (hP : P v) :
    completes i s P := by
  have hwrites := retire_writesOne s i.rd v
  refine ⟨s.retire i.rd v, ?_, fun hrd => ?_, readX_zero _, nextPc_toNat s, hwrites.onlyRegister,
    ⟨rfl, rfl, rfl, rfl, rfl, rfl, rfl, rfl⟩, fun _ => rfl⟩
  · rw [hexec, compute_of_wellFormed hwf]
  · rw [hwrites.readX_rd hrd hv]
    exact hP

theorem completes_mono {P Q : XWord → Prop} (h : completes i s P) (hPQ : ∀ v, P v → Q v) :
    completes i s Q := by
  obtain ⟨t, hexec, hval, hframe⟩ := h
  exact ⟨t, hexec, fun hrd => hPQ _ (hval hrd), hframe⟩

variable {f : Nat → Bool}

theorem completes_hasBits {n : Nat} {v : XWord} (hwf : i.wellFormed s.cfg = true)
    (hexec : exec i s = compute i v s) (hn : n ≤ s.cfg.xlen.bits) (h : hasBits n v f) :
    completes i s fun v => hasBits n v f :=
  completes_of_compute hwf hexec (hasBits_lt h hn) h

theorem completes_opX2 {rs1 rs2 : Reg}
    (F : (x : Xlen) → BitVec x.bits → BitVec x.bits → BitVec x.bits)
    (hwf : i.wellFormed s.cfg = true)
    (hexec : exec i s = compute i (s.opX2 (F .rv32) (F .rv64) rs1 rs2) s)
    (h : ∀ k < s.cfg.xlen.bits, (F s.cfg.xlen (regBits s rs1) (regBits s rs2)).getLsbD k = f k) :
    completes i s fun v => hasBits s.cfg.xlen.bits v f := by
  rw [opX2_eq_setWidth F] at hexec
  exact completes_hasBits hwf hexec (Nat.le_refl _) (hasBits_setWidth h)

theorem completes_opX1 {rs1 : Reg} (F : (x : Xlen) → BitVec x.bits → BitVec x.bits)
    (hwf : i.wellFormed s.cfg = true)
    (hexec : exec i s = compute i (s.opX1 (F .rv32) (F .rv64) rs1) s)
    (h : ∀ k < s.cfg.xlen.bits, (F s.cfg.xlen (regBits s rs1)).getLsbD k = f k) :
    completes i s fun v => hasBits s.cfg.xlen.bits v f := by
  rw [opX1_eq_setWidth F] at hexec
  exact completes_hasBits hwf hexec (Nat.le_refl _) (hasBits_setWidth h)

/-- A value that only RV64 computes, from all 64 bits of its registers. -/
theorem completes_rv64 {v : XWord} (hwf : i.wellFormed s.cfg = true) (hx : s.cfg.xlen = .rv64)
    (hexec : exec i s = compute i v s) (h : ∀ k < 64, v.getLsbD k = f k) :
    completes i s fun v => hasBits 64 v f := by
  refine completes_hasBits hwf hexec (by rw [hx]; exact Nat.le_refl _) fun k hk => ?_
  rw [h k hk, decide_eq_true hk, Bool.true_and]

theorem completes_sextX {x : Xlen} {v : Word32} (hwf : i.wellFormed s.cfg = true)
    (hx : s.cfg.xlen = x) (hexec : exec i s = compute i (sextX s.cfg.xlen v) s)
    (h : ∀ k < 32, v.getLsbD k = f k) : completes i s fun v => hasWordBits x v f := by
  subst hx
  exact completes_of_compute hwf hexec (sextX_lt _ v) (sextX_hasWordBits _ h)

/-- On RV32 the word is the whole register. -/
theorem completes_sextX_rv32 {v : Word32} (hwf : i.wellFormed s.cfg = true)
    (hx : s.cfg.xlen = .rv32) (hexec : exec i s = compute i (sextX s.cfg.xlen v) s)
    (h : ∀ k < 32, v.getLsbD k = f k) : completes i s fun v => hasBits 32 v f :=
  completes_mono (completes_sextX hwf hx hexec h) fun _ => hasWordBits_rv32.1

end

end Sys2Proof.Proofs
end

section
/-! The values of the Zbkb instructions, bit by bit at every width (spec/40_zbkb.md R101 to R116), and their
identities (R117), each from the bits of the two sides. -/

namespace Sys2Proof.Proofs

open Sys2Proof.Machine Sys2Proof.Laws

/-! ## Bits -/

section

variable {w k : Nat}

theorem andnV_getLsbD (a b : BitVec w) (hk : k < w) :
    (andnV a b).getLsbD k = (a.getLsbD k && !b.getLsbD k) := by
  simp [andnV, hk]

theorem ornV_getLsbD (a b : BitVec w) (hk : k < w) :
    (ornV a b).getLsbD k = (a.getLsbD k || !b.getLsbD k) := by
  simp [ornV, hk]

theorem xnorV_getLsbD (a b : BitVec w) (hk : k < w) :
    (xnorV a b).getLsbD k = (a.getLsbD k == b.getLsbD k) := by
  rw [xnorV, BitVec.getLsbD_not, decide_eq_true hk, Bool.true_and, BitVec.getLsbD_xor]
  cases a.getLsbD k <;> cases b.getLsbD k <;> rfl

theorem rolV_getLsbD (v : BitVec w) {n : Nat} (hn : n < w) (hk : k < w) :
    (rolV v n).getLsbD k = v.getLsbD ((k + w - n) % w) := by
  rw [rolV, BitVec.getLsbD_rotateLeft, Nat.mod_eq_of_lt hn]
  by_cases hkn : k < n
  · rw [decide_eq_true hkn, cond_true, Nat.mod_eq_of_lt (by omega)]
    congr 1
    omega
  · rw [decide_eq_false hkn, cond_false, decide_eq_true hk, Bool.true_and,
      show k + w - n = k - n + w by omega, Nat.add_mod_right, Nat.mod_eq_of_lt (by omega)]

theorem rorV_getLsbD (v : BitVec w) {n : Nat} (hn : n < w) (hk : k < w) :
    (rorV v n).getLsbD k = v.getLsbD ((k + n) % w) := by
  rw [rorV, BitVec.getLsbD_rotateRight, Nat.mod_eq_of_lt hn]
  by_cases hkn : k < w - n
  · rw [decide_eq_true hkn, cond_true, Nat.mod_eq_of_lt (by omega), Nat.add_comm]
  · rw [decide_eq_false hkn, cond_false, decide_eq_true hk, Bool.true_and,
      show k + n = k - (w - n) + w by omega, Nat.add_mod_right, Nat.mod_eq_of_lt (by omega)]

theorem packV_getLsbD (h : Nat) (a b : BitVec (h + h)) (hk : k < h + h) :
    (packV h a b).getLsbD k = if k < h then a.getLsbD k else b.getLsbD (k - h) := by
  rw [packV, BitVec.getLsbD_append]
  split
  · rw [BitVec.getLsbD_setWidth, decide_eq_true ‹_›, Bool.true_and]
  · rw [BitVec.getLsbD_setWidth, decide_eq_true (by omega), Bool.true_and]

theorem packhV_getLsbD (a b : BitVec w) (hk : k < w) : (packhV a b).getLsbD k =
    (decide (k < 16) && if k < 8 then a.getLsbD k else b.getLsbD (k - 8)) := by
  rw [packhV, BitVec.getLsbD_setWidth, decide_eq_true hk, Bool.true_and, BitVec.getLsbD_append]
  split
  · simp [show k < 8 by assumption, show k < 16 by omega]
  · rw [BitVec.getLsbD_setWidth]
    congr 1
    exact decide_eq_decide.2 (by omega)

theorem brev8V_getLsbD (v : BitVec w) (hk : k < w) :
    (brev8V v).getLsbD k = v.getLsbD (8 * (k / 8) + 7 - k % 8) := by
  rw [brev8V, BitVec.getLsbD_ofFnLE, dif_pos hk, Nat.add_sub_assoc (by omega)]

theorem rev8V_getLsbD (v : BitVec w) (hk : k < w) :
    (rev8V v).getLsbD k = v.getLsbD (8 * (w / 8 - 1 - k / 8) + k % 8) := by
  rw [rev8V, BitVec.getLsbD_ofFnLE, dif_pos hk]

theorem zipV_getLsbD (v : Word32) (hk : k < 32) :
    (zipV v).getLsbD k = v.getLsbD (k / 2 + 16 * (k % 2)) := by
  rw [zipV, BitVec.getLsbD_ofFnLE, dif_pos hk]
  split
  · next heven => rw [heven]; rfl
  · next hodd => rw [Nat.mod_two_ne_zero.1 hodd]

theorem unzipV_getLsbD (v : Word32) (hk : k < 32) :
    (unzipV v).getLsbD k = v.getLsbD (2 * (k % 16) + k / 16) := by
  rw [unzipV, BitVec.getLsbD_ofFnLE, dif_pos hk]
  dsimp only
  split
  · congr 1
    omega
  · congr 1
    omega

end

/-! ## Identities -/

section

variable {w : Nat}

theorem rolV_eq_rorV_sub (v : BitVec w) {n : Nat} (hpos : 0 < n) (hn : n < w) :
    rolV v n = rorV v (w - n) := by
  refine BitVec.eq_of_getLsbD_eq fun k hk => ?_
  rw [rolV_getLsbD v hn hk, rorV_getLsbD v (by omega) hk, Nat.add_sub_assoc (by omega)]

theorem rolV_zero (v : BitVec w) : rolV v 0 = v := by
  refine BitVec.eq_of_getLsbD_eq fun k hk => ?_
  rw [rolV_getLsbD v (by omega) hk, Nat.sub_zero, Nat.add_mod_right, Nat.mod_eq_of_lt hk]

theorem rorV_zero (v : BitVec w) : rorV v 0 = v := by
  refine BitVec.eq_of_getLsbD_eq fun k hk => ?_
  rw [rorV_getLsbD v (by omega) hk, Nat.add_zero, Nat.mod_eq_of_lt hk]

/-- Bits move within their byte, and the width is whole bytes, so no index leaves the value. -/
theorem brev8V_brev8V (hw : 8 ∣ w) (v : BitVec w) : brev8V (brev8V v) = v := by
  refine BitVec.eq_of_getLsbD_eq fun k hk => ?_
  rw [brev8V_getLsbD _ hk, brev8V_getLsbD _ (by omega)]
  congr 1
  omega

theorem rev8V_rev8V (hw : 8 ∣ w) (v : BitVec w) : rev8V (rev8V v) = v := by
  refine BitVec.eq_of_getLsbD_eq fun k hk => ?_
  rw [rev8V_getLsbD _ hk, rev8V_getLsbD _ (by omega)]
  congr 1
  omega

theorem reverse_getLsbD (v : BitVec w) {k : Nat} (hk : k < w) :
    v.reverse.getLsbD k = v.getLsbD (w - 1 - k) := by
  rw [BitVec.getLsbD_reverse, BitVec.getMsbD_eq_getLsbD, decide_eq_true hk, Bool.true_and]

theorem brev8V_rev8V (hw : 8 ∣ w) (v : BitVec w) : brev8V (rev8V v) = v.reverse := by
  refine BitVec.eq_of_getLsbD_eq fun k hk => ?_
  rw [brev8V_getLsbD _ hk, rev8V_getLsbD _ (by omega), reverse_getLsbD _ hk]
  congr 1
  omega

theorem rev8V_brev8V (hw : 8 ∣ w) (v : BitVec w) : rev8V (brev8V v) = v.reverse := by
  refine BitVec.eq_of_getLsbD_eq fun k hk => ?_
  rw [rev8V_getLsbD _ hk, brev8V_getLsbD _ (by omega), reverse_getLsbD _ hk]
  congr 1
  omega

theorem unzipV_zipV (v : Word32) : unzipV (zipV v) = v := by
  refine BitVec.eq_of_getLsbD_eq fun k hk => ?_
  rw [unzipV_getLsbD _ hk, zipV_getLsbD _ (by omega)]
  congr 1
  omega

theorem zipV_unzipV (v : Word32) : zipV (unzipV v) = v := by
  refine BitVec.eq_of_getLsbD_eq fun k hk => ?_
  rw [zipV_getLsbD _ hk, unzipV_getLsbD _ (by omega)]
  congr 1
  omega

theorem andnV_eq_and_xnorV_zero (a b : BitVec w) : andnV a b = a &&& xnorV b 0 := by
  refine BitVec.eq_of_getLsbD_eq fun k hk => ?_
  rw [andnV_getLsbD _ _ hk, BitVec.getLsbD_and, xnorV_getLsbD _ _ hk]
  simp

theorem packV_zero (h : Nat) (v : BitVec (h + h)) :
    packV h v 0 = (v.setWidth h).setWidth (h + h) := by
  refine BitVec.eq_of_getLsbD_eq fun k hk => ?_
  rw [packV_getLsbD _ _ _ hk, BitVec.getLsbD_setWidth, BitVec.getLsbD_setWidth, decide_eq_true hk,
    Bool.true_and]
  split
  · rw [decide_eq_true ‹_›, Bool.true_and]
  · rw [decide_eq_false ‹_›, Bool.false_and, BitVec.ofNat_eq_ofNat, BitVec.getLsbD_zero]

end

end Sys2Proof.Proofs
end

section
/-! The results of the Zbkb instructions (spec/40_zbkb.md R101 to R117): each is well formed where Zbkb is,
its value has the stated bits, and the frame is that of every computational instruction. -/

namespace Sys2Proof.Proofs

open Sys2Proof.Machine Sys2Proof.Laws

/-! ## The instructions exist, and their operand forms -/

theorem zbkb_wellFormed {i : Instr} {c : Config} {x : Xlen} (hz : c.ext.zbkb = true)
    (hx : c.xlen = x) (hext : i.extensions = [.zbkb]) (hon : i.onXlen x = true)
    (hops : i.operandsOk c = true) : i.wellFormed c = true :=
  wellFormed_of_extension (e := .zbkb) (by rw [hext]; exact List.mem_singleton_self _) hz hx hon hops

/-- The amount of a rotate at XLEN bits: `amount5` on RV32, `amount6` on RV64. -/
def amountX : (x : Xlen) → BitVec x.bits → Nat
  | .rv32, v => amount5 v
  | .rv64, v => amount6 v

theorem amountX_eq (x : Xlen) (v : BitVec x.bits) : amountX x v = v.toNat % x.bits := by
  cases x with
  | rv32 => exact BitVec.extractLsb'_toNat 0 5 v
  | rv64 => exact BitVec.extractLsb'_toNat 0 6 v

theorem amountX_lt (x : Xlen) (v : BitVec x.bits) : amountX x v < x.bits := by
  rw [amountX_eq]
  have := bits_eq x
  exact Nat.mod_lt _ (by omega)

theorem amountX_regBits (s : State) (r : Reg) :
    amountX s.cfg.xlen (regBits s r) = (s.readX r).toNat % s.cfg.xlen.bits := by
  rw [amountX_eq, regBits_toNat]

theorem amount5_lt {w : Nat} (v : BitVec w) : amount5 v < 32 := BitVec.isLt _

theorem amount5_readW (s : State) (r : Reg) : amount5 (s.readW r) = (s.readX r).toNat % 32 := by
  rw [amount5, BitVec.extractLsb'_toNat, State.readW, BitVec.toNat_setWidth]
  omega

/-- `packV` at XLEN bits. -/
def packX : (x : Xlen) → BitVec x.bits → BitVec x.bits → BitVec x.bits
  | .rv32 => packV 16
  | .rv64 => packV 32

theorem packX_getLsbD (x : Xlen) (a b : BitVec x.bits) {k : Nat} (hk : k < x.bits) :
    (packX x a b).getLsbD k =
      if k < x.bits / 2 then a.getLsbD k else b.getLsbD (k - x.bits / 2) := by
  cases x with
  | rv32 => exact packV_getLsbD 16 a b hk
  | rv64 => exact packV_getLsbD 32 a b hk

/-! ## The statements -/

/-- Settles O12: the bits of the three values at XLEN bits. -/
theorem andnOrnXnorResults : Obligations.AndnOrnXnorResults := by
  intro rd rs1 rs2 s hz
  refine ⟨completes_opX2 (fun _ => andnV) (zbkb_wellFormed hz rfl rfl rfl rfl) rfl fun k hk => ?_,
    completes_opX2 (fun _ => ornV) (zbkb_wellFormed hz rfl rfl rfl rfl) rfl fun k hk => ?_,
    completes_opX2 (fun _ => xnorV) (zbkb_wellFormed hz rfl rfl rfl rfl) rfl fun k hk => ?_⟩
  · rw [andnV_getLsbD _ _ hk, regBits_getLsbD _ _ hk, regBits_getLsbD _ _ hk]
  · rw [ornV_getLsbD _ _ hk, regBits_getLsbD _ _ hk, regBits_getLsbD _ _ hk]
  · rw [xnorV_getLsbD _ _ hk, regBits_getLsbD _ _ hk, regBits_getLsbD _ _ hk]

/-- Settles O13: at XLEN bits the amount is `rs2` modulo XLEN, and the immediate forms exist at one width
each. -/
theorem rotateResults : Obligations.RotateResults := by
  intro rd rs1 rs2 s hz
  refine ⟨completes_opX2 (fun x a b => rolV a (amountX x b)) (zbkb_wellFormed hz rfl rfl rfl rfl) rfl
      fun k hk => ?_,
    completes_opX2 (fun x a b => rorV a (amountX x b)) (zbkb_wellFormed hz rfl rfl rfl rfl) rfl
      fun k hk => ?_,
    fun hx n => completes_sextX_rv32 (zbkb_wellFormed hz hx rfl rfl rfl) hx rfl fun k hk => ?_,
    fun hx n => completes_rv64 (zbkb_wellFormed hz hx rfl rfl rfl) hx rfl fun k hk => ?_⟩
  · rw [rolV_getLsbD _ (amountX_lt _ _) hk, amountX_regBits,
      regBits_getLsbD _ _ (Nat.mod_lt _ (by omega))]
  · rw [rorV_getLsbD _ (amountX_lt _ _) hk, amountX_regBits,
      regBits_getLsbD _ _ (Nat.mod_lt _ (by omega))]
  · rw [rorV_getLsbD _ n.isLt hk, readW_getLsbD _ _ (Nat.mod_lt _ (by decide))]
  · exact rorV_getLsbD _ n.isLt hk

/-- Settles O14: the rotated bits stay in the low word, whose sign extension is the result. -/
theorem rotateWordResults : Obligations.RotateWordResults := by
  intro rd rs1 rs2 n s hz hx
  refine ⟨completes_sextX (zbkb_wellFormed hz hx rfl rfl rfl) hx rfl fun k hk => ?_,
    completes_sextX (zbkb_wellFormed hz hx rfl rfl rfl) hx rfl fun k hk => ?_,
    completes_sextX (zbkb_wellFormed hz hx rfl rfl rfl) hx rfl fun k hk => ?_⟩
  · rw [rolV_getLsbD _ (amount5_lt _) hk, readW_getLsbD _ _ (Nat.mod_lt _ (by decide)), amount5_readW]
  · rw [rorV_getLsbD _ (amount5_lt _) hk, readW_getLsbD _ _ (Nat.mod_lt _ (by decide)), amount5_readW]
  · rw [rorV_getLsbD _ n.isLt hk, readW_getLsbD _ _ (Nat.mod_lt _ (by decide))]

/-- Settles O15: `packh` is 0 above its 16 bits at either width. -/
theorem packResults : Obligations.PackResults := by
  intro rd rs1 rs2 s hz
  have hbits := bits_eq s.cfg.xlen
  refine ⟨completes_opX2 packX (zbkb_wellFormed hz rfl rfl rfl rfl) rfl fun k hk => ?_,
    completes_mono (completes_opX2 (fun _ => packhV) (zbkb_wellFormed hz rfl rfl rfl rfl) rfl
      fun k hk => ?_) fun v => hasBits_narrow (by omega),
    fun hx => completes_sextX (zbkb_wellFormed hz hx rfl rfl rfl) hx rfl fun k hk => ?_⟩
  · rw [packX_getLsbD _ _ _ hk, regBits_getLsbD _ _ hk, regBits_getLsbD _ _ (by omega)]
  · rw [packhV_getLsbD _ _ hk, regBits_getLsbD _ _ hk, regBits_getLsbD _ _ (by omega)]
  · rw [packwV, packV_getLsbD 16 _ _ hk, readW_getLsbD _ _ hk, readW_getLsbD _ _ (by omega)]

/-- Settles O16: a bit of a whole number of bytes moves within the value. -/
theorem byteReversalResults : Obligations.ByteReversalResults := by
  intro rd rs1 s hz
  have hbits := bits_eq s.cfg.xlen
  refine ⟨completes_opX1 (fun _ => brev8V) (zbkb_wellFormed hz rfl rfl rfl rfl) rfl fun k hk => ?_,
    fun hx => completes_sextX_rv32 (zbkb_wellFormed hz hx rfl rfl rfl) hx rfl fun k hk => ?_,
    fun hx => completes_rv64 (zbkb_wellFormed hz hx rfl rfl rfl) hx rfl fun k hk => ?_⟩
  · rw [brev8V_getLsbD _ hk, regBits_getLsbD _ _ (by omega)]
  · rw [rev8V_getLsbD _ hk, readW_getLsbD _ _ (by omega)]
  · exact rev8V_getLsbD _ hk

/-- Settles O17: every bit of the result names a bit of the low word. -/
theorem zipUnzipResults : Obligations.ZipUnzipResults := by
  intro rd rs1 s hz hx
  refine ⟨completes_sextX_rv32 (zbkb_wellFormed hz hx rfl rfl rfl) hx rfl fun k hk => ?_,
    completes_sextX_rv32 (zbkb_wellFormed hz hx rfl rfl rfl) hx rfl fun k hk => ?_⟩
  · rw [zipV_getLsbD _ hk, readW_getLsbD _ _ (by omega)]
  · rw [unzipV_getLsbD _ hk, readW_getLsbD _ _ (by omega)]

/-- The sign-extended results of `RotateWordResults` and `PackResults` repeat bit 31. -/
theorem word_instructions_high_bits (rd rs1 rs2 : Reg) (n : BitVec 5) (s : State)
    (hz : s.cfg.ext.zbkb = true) (hx : s.cfg.xlen = .rv64) :
    ∀ i ∈ [Instr.rolw rd rs1 rs2, .rorw rd rs1 rs2, .roriw rd rs1 n, .packw rd rs1 rs2],
      completes i s fun v => ∀ k, 32 ≤ k → k < 64 → v.getLsbD k = v.getLsbD 31 := by
  obtain ⟨hrolw, hrorw, hroriw⟩ := rotateWordResults rd rs1 rs2 n s hz hx
  obtain ⟨-, -, hpackw⟩ := packResults rd rs1 rs2 s hz
  simp only [List.forall_mem_cons]
  exact ⟨completes_mono hrolw fun _ h _ => hasWordBits_high h,
    completes_mono hrorw fun _ h _ => hasWordBits_high h,
    completes_mono hroriw fun _ h _ => hasWordBits_high h,
    completes_mono (hpackw hx) fun _ h _ => hasWordBits_high h, List.forall_mem_nil _⟩

/-- Settles O20: the identities at every width, taken at 64 and 32 bits. -/
theorem zbkbIdentities : Obligations.ZbkbIdentities := by
  have h64 : 8 ∣ 64 := by decide
  have h32 : 8 ∣ 32 := by decide
  exact ⟨fun v _ => rolV_eq_rorV_sub v, fun v _ => rolV_eq_rorV_sub v,
    fun v => ⟨rolV_zero v, rorV_zero v⟩, fun v => ⟨rolV_zero v, rorV_zero v⟩,
    fun v => ⟨brev8V_brev8V h64 v, rev8V_rev8V h64 v, brev8V_rev8V h64 v, rev8V_brev8V h64 v⟩,
    fun v => ⟨brev8V_brev8V h32 v, rev8V_rev8V h32 v, brev8V_rev8V h32 v, rev8V_brev8V h32 v,
      unzipV_zipV v, zipV_unzipV v⟩,
    andnV_eq_and_xnorV_zero, andnV_eq_and_xnorV_zero, packV_zero 32, packV_zero 16,
    word_instructions_high_bits⟩

end Sys2Proof.Proofs
end

section
/-! The values of the Zbkc and Zbkx instructions, bit by bit at every width (spec/41_zbkc_zbkx.md R131 to
R135). Bit `j` of a carry-less product is a parity over the partial products; the loops of `clmul` and
`clmulh` take it up one partial product at a time. -/

namespace Sys2Proof.Proofs

open Sys2Proof.Machine Sys2Proof.Laws

/-! ## The carry-less product -/

/-- What the partial product of bit `i` of `b` adds to bit `j` of the product. -/
def partialBit {w : Nat} (a b : BitVec w) (j i : Nat) : Bool :=
  b.getLsbD i && decide (i ≤ j) && a.getLsbD (j - i)

/-- Bit `j` of the sum without carries of the first `n` partial products. -/
def partialParity {w : Nat} (a b : BitVec w) (j n : Nat) : Bool :=
  (List.range n).countP (partialBit a b j) % 2 == 1

theorem productBit_eq_partialParity (a b : XWord) (j : Nat) :
    productBit a b j = partialParity a b j 64 := rfl

section

variable {w : Nat} (a b : BitVec w)

theorem partialParity_zero (j : Nat) : partialParity a b j 0 = false := rfl

theorem partialParity_succ (j n : Nat) :
    partialParity a b j (n + 1) = (partialParity a b j n ^^ partialBit a b j n) := by
  simp only [partialParity, List.range_succ, List.countP_append, List.countP_singleton]
  generalize (List.range n).countP (partialBit a b j) = c
  cases partialBit a b j n with
  | false => simp
  | true => rcases Nat.mod_two_eq_zero_or_one c with h | h <;> simp [Nat.add_mod, h]

/-- Partial products past the width of `b` are 0. -/
theorem partialParity_of_width_le (j : Nat) {n : Nat} (hn : w ≤ n) :
    partialParity a b j n = partialParity a b j w := by
  induction n, hn using Nat.le_induction with
  | base => rfl
  | succ n hn ih =>
    rw [partialParity_succ, ih, partialBit, BitVec.getLsbD_of_ge b n hn, Bool.false_and,
      Bool.false_and, Bool.xor_false]

theorem clmulLoop_getLsbD {k : Nat} (hk : k < w) (n : Nat) :
    (clmulLoop a b n).getLsbD k = partialParity a b k n := by
  induction n with
  | zero => exact BitVec.getLsbD_zero
  | succ n ih =>
    have hterm : (if b.getLsbD n then a <<< n else 0).getLsbD k = partialBit a b k n := by
      rw [partialBit]
      cases b.getLsbD n with
      | false => simp
      | true =>
        simp only [if_true, BitVec.getLsbD_shiftLeft, hk, decide_true, Bool.true_and,
          ← decide_not, Nat.not_lt]
    rw [clmulLoop, BitVec.getLsbD_xor, ih, hterm, partialParity_succ]

/-- The partial product of bit 0 of `b` does not reach the high half, so the loop begins at bit 1. -/
theorem clmulhLoop_getLsbD (k : Nat) {n : Nat} (hn : n < w) :
    (clmulhLoop a b n).getLsbD k = partialParity a b (k + w) (n + 1) := by
  induction n with
  | zero =>
    rw [partialParity_succ, partialParity_zero, partialBit, Nat.sub_zero,
      BitVec.getLsbD_of_ge a (k + w) (Nat.le_add_left w k), Bool.and_false, Bool.xor_false]
    exact BitVec.getLsbD_zero
  | succ n ih =>
    have hterm : (if b.getLsbD (n + 1) then a >>> (w - (n + 1)) else 0).getLsbD k =
        partialBit a b (k + w) (n + 1) := by
      have hshift : w - (n + 1) + k = k + w - (n + 1) := by omega
      rw [partialBit, decide_eq_true (by omega), Bool.and_true]
      cases b.getLsbD (n + 1) with
      | false => simp
      | true => rw [if_pos rfl, BitVec.getLsbD_ushiftRight, hshift, Bool.true_and]
    rw [clmulhLoop, BitVec.getLsbD_xor, ih (by omega), hterm, ← partialParity_succ]

theorem clmulV_getLsbD {k : Nat} (hk : k < w) :
    (clmulV a b).getLsbD k = partialParity a b k w :=
  clmulLoop_getLsbD a b hk w

theorem clmulhV_getLsbD {k : Nat} (hk : k < w) :
    (clmulhV a b).getLsbD k = partialParity a b (k + w) w := by
  rw [clmulhV, clmulhLoop_getLsbD a b k (by omega), Nat.sub_add_cancel (by omega)]

/-! ## Crossbar permutation -/

/-- Element number `e` of `a`, in elements of `n` bits, where only `m` of them exist. -/
theorem element_getLsbD (n m e : Nat) {r : Nat} (hr : r < n) :
    (if e < m then a.extractLsb' (n * e) n else 0).getLsbD r =
      (decide (e < m) && a.getLsbD (n * e + r)) := by
  by_cases he : e < m <;> simp [he, hr]

theorem getByte_toNat (j : Nat) : (getByte b j).toNat = b.toNat / 2 ^ (8 * j) % 256 := by
  rw [getByte, BitVec.extractLsb'_toNat, Nat.shiftRight_eq_div_pow]

theorem getNibble_toNat (j : Nat) : (getNibble b j).toNat = b.toNat / 2 ^ (4 * j) % 16 := by
  rw [getNibble, BitVec.extractLsb'_toNat, Nat.shiftRight_eq_div_pow]

theorem xperm8V_getLsbD {k : Nat} (hk : k < w) : (xperm8V a b).getLsbD k =
    (decide (b.toNat / 2 ^ (8 * (k / 8)) % 256 < w / 8) &&
      a.getLsbD (8 * (b.toNat / 2 ^ (8 * (k / 8)) % 256) + k % 8)) := by
  rw [xperm8V, BitVec.getLsbD_ofFnLE, dif_pos hk, ← getByte_toNat]
  exact element_getLsbD a 8 (w / 8) _ (Nat.mod_lt k (by decide))

theorem xperm4V_getLsbD {k : Nat} (hk : k < w) : (xperm4V a b).getLsbD k =
    (decide (b.toNat / 2 ^ (4 * (k / 4)) % 16 < w / 4) &&
      a.getLsbD (4 * (b.toNat / 2 ^ (4 * (k / 4)) % 16) + k % 4)) := by
  rw [xperm4V, BitVec.getLsbD_ofFnLE, dif_pos hk, ← getNibble_toNat]
  exact element_getLsbD a 4 (w / 4) _ (Nat.mod_lt k (by decide))

end

end Sys2Proof.Proofs
end

section
/-! The results of the Zbkc and Zbkx instructions (spec/41_zbkc_zbkx.md R131 to R135): one operation at XLEN
bits each, whose bits are those of the registers in their 64-bit homes. -/

namespace Sys2Proof.Proofs

open Sys2Proof.Machine Sys2Proof.Laws

/-- At the configuration's own width: the Zbkc and Zbkx instructions have one extension and both widths. -/
theorem wellFormed_of_sole_extension {i : Instr} {c : Config} (e : ExtName)
    (hext : i.extensions = [e]) (he : c.ext.has e = true) (hon : i.onXlen c.xlen = true)
    (hops : i.operandsOk c = true) : i.wellFormed c = true :=
  wellFormed_of_extension (by rw [hext]; exact List.mem_singleton_self e) he rfl hon hops

/-- At or above XLEN both sides are 0. -/
theorem regBits_getLsbD_all (s : State) (r : Reg) (k : Nat) :
    (regBits s r).getLsbD k = (s.readX r).getLsbD k := by
  rw [← BitVec.testBit_toNat, regBits_toNat, BitVec.testBit_toNat]

/-- The product of the XLEN-bit values is that of their homes: no partial product comes from above XLEN. -/
theorem partialParity_regBits (s : State) (rs1 rs2 : Reg) (j : Nat) :
    partialParity (regBits s rs1) (regBits s rs2) j s.cfg.xlen.bits =
      productBit (s.readX rs1) (s.readX rs2) j := by
  have hbit : partialBit (regBits s rs1) (regBits s rs2) j =
      partialBit (s.readX rs1) (s.readX rs2) j := by
    funext i
    simp only [partialBit, regBits_getLsbD_all]
  rw [productBit_eq_partialParity, ← partialParity_of_width_le _ _ _ (bits_le_64 s.cfg.xlen),
    partialParity, hbit, partialParity]

/-- Settles O18: `clmul` and `clmulh` sum the partial products of the low and of the high half. -/
theorem clmulResults : Obligations.ClmulResults := by
  intro rd rs1 rs2 s hz
  refine ⟨completes_opX2 (fun _ => clmulV) (wellFormed_of_sole_extension .zbkc rfl hz rfl rfl) rfl
      fun k hk => ?_,
    completes_opX2 (fun _ => clmulhV) (wellFormed_of_sole_extension .zbkc rfl hz rfl rfl) rfl
      fun k hk => ?_⟩
  · rw [clmulV_getLsbD _ _ hk, partialParity_regBits]
  · rw [clmulhV_getLsbD _ _ hk, partialParity_regBits]

/-- Settles O19: each bit of the result is a bit of the element named. -/
theorem xpermResults : Obligations.XpermResults := by
  intro rd rs1 rs2 s hz
  refine ⟨completes_opX2 (fun _ => xperm8V) (wellFormed_of_sole_extension .zbkx rfl hz rfl rfl) rfl
      fun k hk => ?_,
    completes_opX2 (fun _ => xperm4V) (wellFormed_of_sole_extension .zbkx rfl hz rfl rfl) rfl
      fun k hk => ?_⟩
  · rw [xperm8V_getLsbD _ _ hk, regBits_toNat, regBits_getLsbD_all]
  · rw [xperm4V_getLsbD _ _ hk, regBits_toNat, regBits_getLsbD_all]

end Sys2Proof.Proofs
end

section
/-! Values byte by byte: the bytes of a concatenation, of a rotated word, of the columns of a register, and
the completion of an instruction whose result is given by its bytes (spec/10_state.md R12, R23). -/

namespace Sys2Proof.Proofs

open Sys2Proof.Machine Sys2Proof.Laws

/-! ## Bytes -/

section

variable {w : Nat}

theorem getByte_getLsbD (v : BitVec w) (k : Nat) {i : Nat} (hi : i < 8) :
    (getByte v k).getLsbD i = v.getLsbD (8 * k + i) := by
  rw [getByte, BitVec.getLsbD_extractLsb', decide_eq_true hi, Bool.true_and]

@[simp] theorem getByte_xor (a b : BitVec w) (k : Nat) :
    getByte (a ^^^ b) k = getByte a k ^^^ getByte b k :=
  BitVec.extractLsb'_xor ..

/-- Values of whole bytes are equal when their bytes are. -/
theorem eq_of_getByte_eq {a b : BitVec w} (n : Nat) (hw : w = 8 * n)
    (h : ∀ k < n, getByte a k = getByte b k) : a = b := by
  refine BitVec.eq_of_getLsbD_eq fun i hi => ?_
  have hbyte := congrArg (fun v : Byte => v.getLsbD (i % 8)) (h (i / 8) (by omega))
  simp only [getByte_getLsbD _ _ (Nat.mod_lt i (by decide)), Nat.div_add_mod] at hbyte
  exact hbyte

theorem getByte_append_zero (a : BitVec w) (b : Byte) : getByte (a ++ b) 0 = b := by
  refine BitVec.eq_of_getLsbD_eq fun i hi => ?_
  rw [getByte_getLsbD _ _ hi, BitVec.getLsbD_append, if_pos (by omega)]
  congr 1
  omega

theorem getByte_append_succ (a : BitVec w) (b : Byte) (k : Nat) :
    getByte (a ++ b) (k + 1) = getByte a k := by
  refine BitVec.eq_of_getLsbD_eq fun i hi => ?_
  rw [getByte_getLsbD _ _ hi, getByte_getLsbD _ _ hi, BitVec.getLsbD_append, if_neg (by omega)]
  congr 1
  omega

/-- The bytes `f n` down to `f 0`, the last one lowest, as the model's functions join them. -/
def joinBytes (f : Nat → Byte) : (n : Nat) → BitVec (8 * n + 8)
  | 0 => f 0
  | n + 1 => joinBytes (fun k => f (k + 1)) n ++ f 0

theorem getByte_joinBytes (f : Nat → Byte) {n k : Nat} (hk : k ≤ n) :
    getByte (joinBytes f n) k = f k := by
  induction n generalizing f k with
  | zero =>
    obtain rfl : k = 0 := by omega
    exact BitVec.extractLsb'_eq_self
  | succ n ih =>
    cases k with
    | zero => exact getByte_append_zero _ _
    | succ k => exact (getByte_append_succ _ _ k).trans (ih _ (by omega))

theorem getByte_join4 (f : Nat → Byte) {k : Nat} (hk : k < 4) :
    getByte (f 3 ++ f 2 ++ f 1 ++ f 0 : Word32) k = f k :=
  getByte_joinBytes f (n := 3) (by omega)

theorem getByte_bytes4 {b0 b1 b2 b3 : Byte} {f : Nat → Byte} (h0 : b0 = f 0) (h1 : b1 = f 1)
    (h2 : b2 = f 2) (h3 : b3 = f 3) {k : Nat} (hk : k < 4) :
    getByte (b3 ++ b2 ++ b1 ++ b0 : Word32) k = f k := by
  rw [h0, h1, h2, h3]
  exact getByte_join4 f hk

theorem getByte_join8 (f : Nat → Byte) {k : Nat} (hk : k < 8) :
    getByte (f 7 ++ f 6 ++ f 5 ++ f 4 ++ f 3 ++ f 2 ++ f 1 ++ f 0 : XWord) k = f k :=
  getByte_joinBytes f (n := 7) (by omega)

theorem getByte_setWidth (v : BitVec w) {n k : Nat} (hk : 8 * k + 8 ≤ n) :
    getByte (v.setWidth n) k = getByte v k := by
  refine BitVec.eq_of_getLsbD_eq fun i hi => ?_
  rw [getByte_getLsbD _ _ hi, getByte_getLsbD _ _ hi, BitVec.getLsbD_setWidth,
    decide_eq_true (by omega), Bool.true_and]

/-- Past its width a value has only zero bytes. -/
theorem getByte_of_width_le (v : BitVec w) {k : Nat} (hk : w ≤ 8 * k) : getByte v k = 0 := by
  refine BitVec.eq_of_getLsbD_eq fun i hi => ?_
  rw [getByte_getLsbD _ _ hi, BitVec.getLsbD_of_ge v _ (by omega)]
  exact BitVec.getLsbD_zero.symm

theorem getByte_setWidth_byte (v : Byte) {k : Nat} (hk : k < 4) :
    getByte (v.setWidth 32) k = if k = 0 then v else 0 := by
  rw [getByte_setWidth _ (by omega)]
  cases k with
  | zero => exact BitVec.extractLsb'_eq_self
  | succ k => exact getByte_of_width_le _ (by omega)

theorem getByte_rotateLeft (v : Word32) {n k : Nat} (hn : n < 4) (hk : k < 4) :
    getByte (v.rotateLeft (8 * n)) k = getByte v ((k + 4 - n) % 4) := by
  refine BitVec.eq_of_getLsbD_eq fun i hi => ?_
  rw [getByte_getLsbD _ _ hi, getByte_getLsbD _ _ hi, ← rolV, rolV_getLsbD _ (by omega) (by omega)]
  congr 1
  omega

theorem getByte_rotateRight_eight (v : Word32) {k : Nat} (hk : k < 4) :
    getByte (v.rotateRight 8) k = getByte v ((k + 1) % 4) := by
  refine BitVec.eq_of_getLsbD_eq fun i hi => ?_
  rw [getByte_getLsbD _ _ hi, getByte_getLsbD _ _ hi, ← rorV, rorV_getLsbD _ (by omega) (by omega)]
  congr 1
  omega

end

/-! ## Columns: the two words of a register -/

/-- Word `c` of a register: one column of the AES state (spec/42_aes.md R140 (g)). -/
def column (x : XWord) (c : Nat) : Word32 := x.extractLsb' (32 * c) 32

theorem column_zero (x : XWord) : column x 0 = loWord x := rfl

theorem column_one (x : XWord) : column x 1 = hiWord x := rfl

theorem getByte_column (x : XWord) (c : Nat) {r : Nat} (hr : r < 4) :
    getByte (column x c) r = getByte x (4 * c + r) := by
  refine BitVec.eq_of_getLsbD_eq fun i hi => ?_
  rw [getByte_getLsbD _ _ hi, getByte_getLsbD _ _ hi, column, BitVec.getLsbD_extractLsb',
    decide_eq_true (by omega), Bool.true_and]
  congr 1
  omega

@[simp] theorem loWord_append (hi lo : Word32) : loWord (hi ++ lo : XWord) = lo :=
  BitVec.extractLsb'_append_eq_right

@[simp] theorem hiWord_append (hi lo : Word32) : hiWord (hi ++ lo : XWord) = hi :=
  BitVec.extractLsb'_append_eq_left

theorem hiWord_append_loWord (x : XWord) : (hiWord x ++ loWord x : XWord) = x :=
  (BitVec.extractLsb'_append_extractLsb'_eq_extractLsb' (by decide)).trans BitVec.extractLsb'_eq_self

theorem getByte_append_words (hi lo : Word32) {j : Nat} (hj : j < 8) :
    getByte (hi ++ lo : XWord) j = getByte (if j < 4 then lo else hi) (j % 4) := by
  have hbyte (c : Nat) (hc : c = j / 4) :
      getByte (hi ++ lo : XWord) j = getByte (column (hi ++ lo) c) (j % 4) := by
    rw [getByte_column _ _ (Nat.mod_lt j (by decide)), hc, Nat.div_add_mod]
  split
  · rw [hbyte 0 (by omega), column_zero, loWord_append]
  · rw [hbyte 1 (by omega), column_one, hiWord_append]

/-- A function of words, applied to both words of a register. -/
theorem getByte_map_columns (f : Word32 → Word32) (x : XWord) {j : Nat} (hj : j < 8) :
    getByte (f (hiWord x) ++ f (loWord x) : XWord) j = getByte (f (column x (j / 4))) (j % 4) := by
  rw [getByte_append_words _ _ hj]
  split
  · rw [show j / 4 = 0 by omega, column_zero]
  · rw [show j / 4 = 1 by omega, column_one]

theorem getByte_readW (s : State) (r : Reg) {k : Nat} (hk : k < 4) :
    getByte (s.readW r) k = getByte (s.readX r) k :=
  getByte_setWidth _ (by omega)

/-! ## Completion -/

section

variable {i : Instr} {s : State} {f : Nat → Byte}

theorem completes_bytes_rv32 {v : Word32} (hwf : i.wellFormed s.cfg = true) (hx : s.cfg.xlen = .rv32)
    (hexec : exec i s = compute i (sextX s.cfg.xlen v) s) (h : ∀ j < 4, getByte v j = f j) :
    completes i s fun v => hasBytes 4 v f := by
  refine completes_of_compute hwf hexec (sextX_lt _ v) fun k hk => ?_
  have hbyte : getByte (sextX s.cfg.xlen v) k = getByte v k := by
    rw [hx]
    exact getByte_setWidth v (by omega)
  refine hbyte.trans ?_
  split
  · exact h k ‹_›
  · exact getByte_of_width_le v (by omega)

theorem completes_bytes_rv64 {v : XWord} (hwf : i.wellFormed s.cfg = true) (hx : s.cfg.xlen = .rv64)
    (hexec : exec i s = compute i v s) (h : ∀ j < 8, getByte v j = f j) :
    completes i s fun v => hasBytes 8 v f :=
  completes_of_compute hwf hexec (by rw [hx]; exact v.isLt) fun k hk => (h k hk).trans (if_pos hk).symm

end

end Sys2Proof.Proofs
end

section
/-! The AES functions byte by byte (spec/42_aes.md R141 to R160), in the row and column numbering of the
published state. -/

namespace Sys2Proof.Proofs

open Sys2Proof.Machine Sys2Proof.Laws

/-! ## S-boxes (R141, R142, R146) -/

theorem aesSboxInv_aesSboxFwd : ∀ x : Byte, aesSboxInv (aesSboxFwd x) = x := by decide

theorem getByte_aesSubwordFwd (x : Word32) {k : Nat} (hk : k < 4) :
    getByte (aesSubwordFwd x) k = aesSboxFwd (getByte x k) :=
  getByte_join4 (fun k => aesSboxFwd (getByte x k)) hk

theorem getByte_aesSubwordInv (x : Word32) {k : Nat} (hk : k < 4) :
    getByte (aesSubwordInv x) k = aesSboxInv (getByte x k) :=
  getByte_join4 (fun k => aesSboxInv (getByte x k)) hk

theorem getByte_aesSubBytesFwd64 (x : XWord) {j : Nat} (hj : j < 8) :
    getByte (aesSubBytesFwd64 x) j = aesSboxFwd (getByte x j) := by
  have hr : j % 4 < 4 := Nat.mod_lt j (by decide)
  rw [aesSubBytesFwd64, getByte_map_columns _ _ hj, getByte_aesSubwordFwd _ hr, getByte_column _ _ hr,
    Nat.div_add_mod]

theorem getByte_aesSubBytesInv64 (x : XWord) {j : Nat} (hj : j < 8) :
    getByte (aesSubBytesInv64 x) j = aesSboxInv (getByte x j) := by
  have hr : j % 4 < 4 := Nat.mod_lt j (by decide)
  rw [aesSubBytesInv64, getByte_map_columns _ _ hj, getByte_aesSubwordInv _ hr, getByte_column _ _ hr,
    Nat.div_add_mod]

/-! ## ShiftRows (R146) and the final rounds (R154, R156) -/

theorem getByte_aesRv64ShiftrowsFwd (a b : XWord) {j : Nat} (hj : j < 8) :
    getByte (aesRv64ShiftrowsFwd b a) j = stateByte a b (shiftRowsFrom j) :=
  getByte_join8 (fun j => stateByte a b (shiftRowsFrom j)) hj

theorem getByte_aesRv64ShiftrowsInv (a b : XWord) {j : Nat} (hj : j < 8) :
    getByte (aesRv64ShiftrowsInv b a) j = stateByte a b (invShiftRowsFrom j) :=
  getByte_join8 (fun j => stateByte a b (invShiftRowsFrom j)) hj

theorem getByte_aes64esV (a b : XWord) {j : Nat} (hj : j < 8) :
    getByte (aes64esV a b) j = aesSboxFwd (stateByte a b (shiftRowsFrom j)) := by
  rw [aes64esV, getByte_aesSubBytesFwd64 _ hj, getByte_aesRv64ShiftrowsFwd _ _ hj]

theorem getByte_aes64dsV (a b : XWord) {j : Nat} (hj : j < 8) :
    getByte (aes64dsV a b) j = aesSboxInv (stateByte a b (invShiftRowsFrom j)) := by
  rw [aes64dsV, getByte_aesSubBytesInv64 _ hj, getByte_aesRv64ShiftrowsInv _ _ hj]

/-! ## The field (R143) -/

theorem xt2_xor (x y : Byte) : xt2 (x ^^^ y) = xt2 x ^^^ xt2 y := by
  have hconst : (if (x ^^^ y).getLsbD 7 then (0x1B : Byte) else 0x00) =
      (if x.getLsbD 7 then 0x1B else 0x00) ^^^ (if y.getLsbD 7 then 0x1B else 0x00) := by
    rw [BitVec.getLsbD_xor]
    cases x.getLsbD 7 <;> cases y.getLsbD 7 <;> rfl
  rw [xt2, hconst, BitVec.shiftLeft_xor_distrib, xt2, xt2]
  ac_rfl

theorem gfmul_xor (x y : Byte) (c : BitVec 4) : gfmul (x ^^^ y) c = gfmul x c ^^^ gfmul y c := by
  have hite (b : Bool) (u v : Byte) :
      (if b then u ^^^ v else 0) = (if b then u else 0) ^^^ (if b then v else 0) := by
    cases b
    · exact BitVec.xor_zero.symm
    · rfl
  simp only [gfmul, xt2_xor, hite]
  ac_rfl

theorem gfmul_one (x : Byte) : gfmul x 1#4 = x := by simp [gfmul]

theorem gfmul_two (x : Byte) : gfmul x 2#4 = xt2 x := by simp [gfmul]

theorem gfmul_three (x : Byte) : gfmul x 3#4 = xt3 x := by simp [gfmul, xt3]

/-! ## MixColumns (R144, R145) and the middle rounds (R155, R157) -/

theorem mixRow_congr {m n : Nat} (h : m % 4 = n % 4) : mixRow m = mixRow n := by
  rw [mixRow, mixRow, h]

theorem invMixRow_congr {m n : Nat} (h : m % 4 = n % 4) : invMixRow m = invMixRow n := by
  rw [invMixRow, invMixRow, h]

theorem mixByte_congr (row : Nat → BitVec 4) {c d : Nat → Byte} (h : ∀ k < 4, c k = d k) (r : Nat) :
    mixByte row c r = mixByte row d r := by
  simp only [mixByte, h 0 (by decide), h 1 (by decide), h 2 (by decide), h 3 (by decide)]

theorem mixByte_xor (row : Nat → BitVec 4) (c d : Nat → Byte) (r : Nat) :
    mixByte row (fun k => c k ^^^ d k) r = mixByte row c r ^^^ mixByte row d r := by
  simp only [mixByte, gfmul_xor]
  ac_rfl

theorem getByte_aesMixcolumnByteFwd (y : Byte) {k : Nat} (hk : k < 4) :
    getByte (aesMixcolumnByteFwd y) k = gfmul y (mixRow (4 - k)) := by
  refine getByte_bytes4 (f := fun k => gfmul y (mixRow (4 - k))) ?_ ?_ ?_ ?_ hk
  all_goals simp [mixRow, gfmul_one]

theorem getByte_aesMixcolumnByteInv (y : Byte) {k : Nat} (hk : k < 4) :
    getByte (aesMixcolumnByteInv y) k = gfmul y (invMixRow (4 - k)) := by
  refine getByte_bytes4 (f := fun k => gfmul y (invMixRow (4 - k))) ?_ ?_ ?_ ?_ hk
  all_goals simp [invMixRow]

theorem getByte_aesMixcolumnFwd (x : Word32) {r : Nat} (hr : r < 4) :
    getByte (aesMixcolumnFwd x) r = mixByte mixRow (getByte x) r := by
  refine getByte_bytes4 (f := mixByte mixRow (getByte x)) ?_ ?_ ?_ ?_ hr
  all_goals simp [mixByte, mixRow, gfmul_one, gfmul_two, gfmul_three]

theorem getByte_aesMixcolumnInv (x : Word32) {r : Nat} (hr : r < 4) :
    getByte (aesMixcolumnInv x) r = mixByte invMixRow (getByte x) r := by
  refine getByte_bytes4 (f := mixByte invMixRow (getByte x)) ?_ ?_ ?_ ?_ hr
  all_goals simp [mixByte, invMixRow]

theorem getByte_aesMixcolumnFwd64 (x : XWord) {j : Nat} (hj : j < 8) :
    getByte (aesMixcolumnFwd64 x) j =
      mixByte mixRow (fun r => getByte x (4 * (j / 4) + r)) (j % 4) := by
  rw [aesMixcolumnFwd64, getByte_map_columns _ _ hj, getByte_aesMixcolumnFwd _ (Nat.mod_lt j (by decide))]
  exact mixByte_congr _ (fun _ hk => getByte_column x _ hk) _

theorem getByte_aesMixcolumnInv64 (x : XWord) {j : Nat} (hj : j < 8) :
    getByte (aesMixcolumnInv64 x) j =
      mixByte invMixRow (fun r => getByte x (4 * (j / 4) + r)) (j % 4) := by
  rw [aesMixcolumnInv64, getByte_map_columns _ _ hj, getByte_aesMixcolumnInv _ (Nat.mod_lt j (by decide))]
  exact mixByte_congr _ (fun _ hk => getByte_column x _ hk) _

theorem aes64esmV_eq (a b : XWord) : aes64esmV a b = aesMixcolumnFwd64 (aes64esV a b) := rfl

theorem aes64dsmV_eq (a b : XWord) : aes64dsmV a b = aesMixcolumnInv64 (aes64dsV a b) := rfl

theorem getByte_aes64esmV (a b : XWord) {j : Nat} (hj : j < 8) :
    getByte (aes64esmV a b) j =
      mixByte mixRow (fun r => aesSboxFwd (stateByte a b (shiftRowsFrom (4 * (j / 4) + r)))) (j % 4) := by
  rw [aes64esmV_eq, getByte_aesMixcolumnFwd64 _ hj]
  exact mixByte_congr _ (fun k hk => getByte_aes64esV a b (by omega)) _

theorem getByte_aes64dsmV (a b : XWord) {j : Nat} (hj : j < 8) :
    getByte (aes64dsmV a b) j =
      mixByte invMixRow (fun r => aesSboxInv (stateByte a b (invShiftRowsFrom (4 * (j / 4) + r))))
        (j % 4) := by
  rw [aes64dsmV_eq, getByte_aesMixcolumnInv64 _ hj]
  exact mixByte_congr _ (fun k hk => getByte_aes64dsV a b (by omega)) _

/-! ## The RV32 round steps (R149 to R153) -/

section

variable (bs : BitVec 2) (a b : Word32) {j : Nat} (hj : j < 4)

include hj

theorem getByte_aes32Step (f : Byte → Word32) : getByte (aes32Step f bs a b) j =
    getByte a j ^^^ getByte (f (getByte b bs.toNat)) ((j + 4 - bs.toNat) % 4) := by
  rw [aes32Step, getByte_xor, bsShamt, getByte_rotateLeft _ bs.isLt hj, selectByte]

/-- A final round places the byte `y` at position `bs`. -/
theorem getByte_setWidth_rotated (y : Byte) :
    getByte (y.setWidth 32) ((j + 4 - bs.toNat) % 4) = if j = bs.toNat then y else 0 := by
  have hbs : bs.toNat < 4 := bs.isLt
  rw [getByte_setWidth_byte _ (Nat.mod_lt _ (by decide))]
  exact if_congr (by omega) rfl rfl

theorem getByte_aes32esi : getByte (aes32Step aes32esiF bs a b) j =
    getByte a j ^^^ if j = bs.toNat then aesSboxFwd (getByte b bs.toNat) else 0 := by
  rw [getByte_aes32Step bs a b hj, aes32esiF, getByte_setWidth_rotated bs hj]

theorem getByte_aes32dsi : getByte (aes32Step aes32dsiF bs a b) j =
    getByte a j ^^^ if j = bs.toNat then aesSboxInv (getByte b bs.toNat) else 0 := by
  rw [getByte_aes32Step bs a b hj, aes32dsiF, getByte_setWidth_rotated bs hj]

/-- The entry of a row that multiplies byte `bs` into byte `j`, before and after the rotation by `bs` bytes. -/
theorem rotated_entry : (4 - (j + 4 - bs.toNat) % 4) % 4 = (bs.toNat + 4 - j) % 4 := by
  have hbs : bs.toNat < 4 := bs.isLt
  omega

theorem getByte_aes32esmi : getByte (aes32Step aes32esmiF bs a b) j =
    getByte a j ^^^ gfmul (aesSboxFwd (getByte b bs.toNat)) (mixRow (bs.toNat + 4 - j)) := by
  rw [getByte_aes32Step bs a b hj, aes32esmiF, getByte_aesMixcolumnByteFwd _ (Nat.mod_lt _ (by decide)),
    mixRow_congr (rotated_entry bs hj)]

theorem getByte_aes32dsmi : getByte (aes32Step aes32dsmiF bs a b) j =
    getByte a j ^^^ gfmul (aesSboxInv (getByte b bs.toNat)) (invMixRow (bs.toNat + 4 - j)) := by
  rw [getByte_aes32Step bs a b hj, aes32dsmiF, getByte_aesMixcolumnByteInv _ (Nat.mod_lt _ (by decide)),
    invMixRow_congr (rotated_entry bs hj)]

end

/-! ## The key schedule (R147, R159, R160) -/

theorem getByte_aesDecodeRcon : ∀ n : BitVec 4, ∀ k < 4, getByte (aesDecodeRcon n) k =
    if k = 0 ∧ n.toNat < 8 then 1 <<< n.toNat
    else if k = 0 ∧ n.toNat = 8 then 0x1B
    else if k = 0 ∧ n.toNat = 9 then 0x36 else 0 := by decide

/-- Byte `k` of the high word, as the bits of the register. -/
theorem getByte_four_add (x : XWord) (k : Nat) : getByte x (4 + k) = x.extractLsb' (32 + 8 * k) 8 := by
  rw [getByte, Nat.mul_add]

theorem getByte_hiWord (x : XWord) {k : Nat} (hk : k < 4) : getByte (hiWord x) k = getByte x (4 + k) :=
  getByte_column x 1 hk

theorem getByte_loWord (x : XWord) {k : Nat} (hk : k < 4) : getByte (loWord x) k = getByte x k := by
  rw [← column_zero, getByte_column x 0 hk, Nat.mul_zero, Nat.zero_add]

theorem getByte_aes64ks1iV (a : XWord) (n : BitVec 4) {j : Nat} (hj : j < 8) :
    getByte (aes64ks1iV a n) j =
      aesSboxFwd (getByte a (4 + (j + if n.toNat = 10 then 0 else 1) % 4)) ^^^
        getByte (aesDecodeRcon n) (j % 4) := by
  have hr : j % 4 < 4 := Nat.mod_lt j (by decide)
  have hten : n = 0xA ↔ n.toNat = 10 := BitVec.toNat_inj.symm
  rw [aes64ks1iV, getByte_append_words _ _ hj, ite_self, getByte_xor, getByte_aesSubwordFwd _ hr]
  congr 2
  simp only [hten]
  split
  · rw [getByte_hiWord _ hr, Nat.add_zero]
  · rw [getByte_rotateRight_eight _ hr, getByte_hiWord _ (Nat.mod_lt _ (by decide)), Nat.mod_add_mod]

theorem getByte_aes64ks2V (a b : XWord) {j : Nat} (hj : j < 8) :
    getByte (aes64ks2V a b) j = getByte a (4 + j % 4) ^^^ getByte b (j % 4) ^^^
      if j < 4 then 0 else getByte b j := by
  have hr : j % 4 < 4 := Nat.mod_lt j (by decide)
  rw [aes64ks2V, getByte_append_words _ _ hj]
  split
  · rw [getByte_xor, getByte_hiWord _ hr, getByte_loWord _ hr]
    exact BitVec.xor_zero.symm
  · rw [getByte_xor, getByte_xor, getByte_hiWord _ hr, getByte_loWord _ hr, getByte_hiWord _ hr,
      show 4 + j % 4 = j by omega]

end Sys2Proof.Proofs
end

section
/-! The AES identities and the results of the AES instructions (spec/42_aes.md R145, R149 to R163). -/

namespace Sys2Proof.Proofs

open Sys2Proof.Machine Sys2Proof.Laws

/-! ## Linear functions of bits -/

/-- The low `n + 1` bits are the low `n` bits and bit `n`. -/
theorem low_bits_succ {w : Nat} (x : BitVec w) (n : Nat) : (x.setWidth (n + 1)).setWidth w =
    (x.setWidth n).setWidth w ^^^ if x.getLsbD n then BitVec.twoPow w n else 0 := by
  refine BitVec.eq_of_getLsbD_eq fun i hi => ?_
  have hbit : (if x.getLsbD n then BitVec.twoPow w n else 0).getLsbD i =
      (decide (i = n) && x.getLsbD i) := by
    by_cases hin : i = n
    · subst hin
      cases x.getLsbD i <;> simp [hi]
    · cases x.getLsbD n <;> simp [hin, Ne.symm hin]
  simp only [BitVec.getLsbD_xor, BitVec.getLsbD_setWidth, hbit, hi, decide_true, Bool.true_and]
  rcases Nat.lt_trichotomy i n with hlt | heq | hgt
  · simp [hlt, Nat.ne_of_lt hlt, Nat.lt_succ_of_lt hlt]
  · simp [heq]
  · simp [Nat.ne_of_gt hgt, Nat.not_lt_of_gt hgt, Nat.not_lt_of_ge (Nat.succ_le_of_lt hgt)]

/-- What holds of 0 and of every single bit and is kept by `^^^` holds of every value. -/
theorem xor_induction {w : Nat} {P : BitVec w → Prop} (hzero : P 0)
    (hbit : ∀ i < w, P (BitVec.twoPow w i)) (hxor : ∀ x y, P x → P y → P (x ^^^ y)) (x : BitVec w) :
    P x := by
  have hlow (n : Nat) (hn : n ≤ w) : P ((x.setWidth n).setWidth w) := by
    induction n with
    | zero => rwa [BitVec.of_length_zero (x := x.setWidth 0), BitVec.setWidth_zero]
    | succ n ih =>
      rw [low_bits_succ]
      refine hxor _ _ (ih (by omega)) ?_
      split
      · exact hbit n (by omega)
      · exact hzero
  simpa using hlow w (Nat.le_refl w)

/-- A linear function of words that fixes every single bit is the identity. -/
theorem eq_self_of_linear {w : Nat} {f : BitVec w → BitVec w} (hxor : ∀ x y, f (x ^^^ y) = f x ^^^ f y)
    (hzero : f 0 = 0) (hbit : ∀ i < w, f (BitVec.twoPow w i) = BitVec.twoPow w i) (x : BitVec w) :
    f x = x :=
  xor_induction (P := fun x => f x = x) hzero hbit (fun x y hx hy => by rw [hxor, hx, hy]) x

/-! ## MixColumns and its inverse -/

theorem aesMixcolumnFwd_xor (x y : Word32) :
    aesMixcolumnFwd (x ^^^ y) = aesMixcolumnFwd x ^^^ aesMixcolumnFwd y := by
  refine eq_of_getByte_eq 4 rfl fun r hr => ?_
  rw [getByte_xor, getByte_aesMixcolumnFwd _ hr, getByte_aesMixcolumnFwd _ hr,
    getByte_aesMixcolumnFwd _ hr, ← mixByte_xor]
  exact mixByte_congr _ (fun k _ => getByte_xor x y k) r

theorem aesMixcolumnInv_xor (x y : Word32) :
    aesMixcolumnInv (x ^^^ y) = aesMixcolumnInv x ^^^ aesMixcolumnInv y := by
  refine eq_of_getByte_eq 4 rfl fun r hr => ?_
  rw [getByte_xor, getByte_aesMixcolumnInv _ hr, getByte_aesMixcolumnInv _ hr,
    getByte_aesMixcolumnInv _ hr, ← mixByte_xor]
  exact mixByte_congr _ (fun k _ => getByte_xor x y k) r

theorem aesMixcolumnInv_aesMixcolumnFwd (x : Word32) : aesMixcolumnInv (aesMixcolumnFwd x) = x :=
  eq_self_of_linear (f := fun x => aesMixcolumnInv (aesMixcolumnFwd x))
    (fun x y => by rw [aesMixcolumnFwd_xor, aesMixcolumnInv_xor]) (by decide) (by decide) x

theorem aesMixcolumnFwd_aesMixcolumnInv (x : Word32) : aesMixcolumnFwd (aesMixcolumnInv x) = x :=
  eq_self_of_linear (f := fun x => aesMixcolumnFwd (aesMixcolumnInv x))
    (fun x y => by rw [aesMixcolumnInv_xor, aesMixcolumnFwd_xor]) (by decide) (by decide) x

theorem aesMixcolumnInv64_aesMixcolumnFwd64 (x : XWord) :
    aesMixcolumnInv64 (aesMixcolumnFwd64 x) = x := by
  rw [aesMixcolumnInv64, aesMixcolumnFwd64, hiWord_append, loWord_append,
    aesMixcolumnInv_aesMixcolumnFwd, aesMixcolumnInv_aesMixcolumnFwd, hiWord_append_loWord]

/-- Settles O26: `aesMixcolumnFwd` and `aesMixcolumnInv` are linear, and inverse on every single bit. -/
theorem mixColumnsInverse : Obligations.MixColumnsInverse :=
  ⟨aesMixcolumnInv_aesMixcolumnFwd, aesMixcolumnFwd_aesMixcolumnInv,
    fun a b => aesMixcolumnInv64_aesMixcolumnFwd64 (aes64esV a b)⟩

/-! ## Decryption undoes encryption -/

theorem shiftRowsFrom_invShiftRowsFrom {i : Nat} (hi : i < 16) :
    shiftRowsFrom (invShiftRowsFrom i) = i := by
  unfold shiftRowsFrom invShiftRowsFrom
  omega

theorem invShiftRowsFrom_lt (i : Nat) : invShiftRowsFrom i < 16 := by
  unfold invShiftRowsFrom
  omega

/-- Two columns further on, ShiftRows takes its bytes two columns further on: from the other register. -/
theorem stateByte_shiftRowsFrom_add_eight (a b : XWord) (j : Nat) :
    stateByte a b (shiftRowsFrom (j + 8)) = stateByte b a (shiftRowsFrom j) := by
  have hadd : shiftRowsFrom (j + 8) = (shiftRowsFrom j + 8) % 16 := by
    unfold shiftRowsFrom
    omega
  have hlt : shiftRowsFrom j < 16 := by
    unfold shiftRowsFrom
    omega
  rw [hadd]
  generalize shiftRowsFrom j = i at hlt
  unfold stateByte
  by_cases hi : i < 8
  · rw [if_pos hi, if_neg (by omega), show (i + 8) % 16 - 8 = i by omega]
  · rw [if_neg hi, if_pos (by omega), show (i + 8) % 16 = i - 8 by omega]

/-- The whole state after a final round of encryption, its two halves in two registers. -/
theorem stateByte_aes64esV (a b : XWord) {i : Nat} (hi : i < 16) :
    stateByte (aes64esV a b) (aes64esV b a) i = aesSboxFwd (stateByte a b (shiftRowsFrom i)) := by
  rw [stateByte]
  split
  · exact getByte_aes64esV a b ‹_›
  · refine (getByte_aes64esV b a (by omega)).trans ?_
    rw [← stateByte_shiftRowsFrom_add_eight, Nat.sub_add_cancel (by omega)]

theorem aes64dsV_aes64esV (a b : XWord) : aes64dsV (aes64esV a b) (aes64esV b a) = a := by
  refine eq_of_getByte_eq 8 rfl fun j hj => ?_
  rw [getByte_aes64dsV _ _ hj, stateByte_aes64esV _ _ (invShiftRowsFrom_lt j), aesSboxInv_aesSboxFwd,
    shiftRowsFrom_invShiftRowsFrom (by omega), stateByte, if_pos hj, getByte]

/-- Settles O25: the second half is the first with the operands exchanged. -/
theorem aesDecryptUndoesEncrypt : Obligations.AesDecryptUndoesEncrypt :=
  fun a b => ⟨aes64dsV_aes64esV a b, aes64dsV_aes64esV b a⟩

/-! ## One column on RV32 and on RV64 -/

/-- The state held in two registers, given by its four columns. -/
theorem stateByte_columns (c : Nat → Word32) {i : Nat} (hi : i < 16) :
    stateByte (c 1 ++ c 0) (c 3 ++ c 2) i = getByte (c (i / 4)) (i % 4) := by
  rw [stateByte]
  split
  · refine (getByte_append_words _ _ ‹_›).trans ?_
    split
    · rw [show i / 4 = 0 by omega]
    · rw [show i / 4 = 1 by omega]
  · refine (getByte_append_words _ _ (by omega)).trans ?_
    rw [show (i - 8) % 4 = i % 4 by omega]
    split
    · rw [show i / 4 = 2 by omega]
    · rw [show i / 4 = 3 by omega]

/-- ShiftRows takes row `r` of column 0 from column `r`. -/
theorem stateByte_shiftRowsFrom_column_zero (c : Nat → Word32) {r : Nat} (hr : r < 4) :
    stateByte (c 1 ++ c 0) (c 3 ++ c 2) (shiftRowsFrom r) = getByte (c r) r := by
  have hfrom : shiftRowsFrom r = 5 * r := by
    unfold shiftRowsFrom
    omega
  rw [hfrom, stateByte_columns c (by omega), show 5 * r / 4 = r by omega, show 5 * r % 4 = r by omega]

theorem getByte_aes64esmV_column_zero (c : Nat → Word32) {j : Nat} (hj : j < 4) :
    getByte (aes64esmV (c 1 ++ c 0) (c 3 ++ c 2)) j =
      mixByte mixRow (fun r => aesSboxFwd (getByte (c r) r)) j := by
  rw [getByte_aes64esmV _ _ (by omega), Nat.div_eq_of_lt hj, Nat.mod_eq_of_lt hj]
  refine mixByte_congr _ (fun r hr => ?_) j
  rw [Nat.mul_zero, Nat.zero_add, stateByte_shiftRowsFrom_column_zero c hr]

/-- Step `r` adds byte `r` of column `r`, times the entries of column `r` of the matrix. -/
theorem aes32esmi_steps (k : Word32) (c : Nat → Word32) :
    aes32Step aes32esmiF 3 (aes32Step aes32esmiF 2 (aes32Step aes32esmiF 1
      (aes32Step aes32esmiF 0 k (c 0)) (c 1)) (c 2)) (c 3) =
    k ^^^ (aes64esmV (c 1 ++ c 0) (c 3 ++ c 2)).setWidth 32 := by
  refine eq_of_getByte_eq 4 rfl fun j hj => ?_
  rw [getByte_aes32esmi 3 _ _ hj, getByte_aes32esmi 2 _ _ hj, getByte_aes32esmi 1 _ _ hj,
    getByte_aes32esmi 0 _ _ hj, getByte_xor, getByte_setWidth _ (by omega),
    getByte_aes64esmV_column_zero c hj]
  simp [mixByte, BitVec.xor_assoc]

/-- Settles O27: the columns are numbered, so that step `r` is one argument for all four. -/
theorem aes32StepsMakeAes64Column : Obligations.Aes32StepsMakeAes64Column :=
  fun k c0 c1 c2 c3 => aes32esmi_steps k fun
    | 0 => c0
    | 1 => c1
    | 2 => c2
    | _ => c3

/-! ## The instructions -/

/-- At a given width: the AES instructions but for the key schedule have one extension and one width. -/
theorem aes_wellFormed {i : Instr} {c : Config} {x : Xlen} (e : ExtName) (hx : c.xlen = x)
    (hext : i.extensions = [e]) (he : c.ext.has e = true) (hon : i.onXlen x = true)
    (hops : i.operandsOk c = true) : i.wellFormed c = true :=
  wellFormed_of_sole_extension e hext he (hx ▸ hon) hops

/-- The key schedule exists for encryption and for decryption alone (R4). -/
theorem keySchedule_wellFormed {i : Instr} {c : Config} (hx : c.xlen = .rv64)
    (hz : c.ext.zkne = true ∨ c.ext.zknd = true) (hext : i.extensions = [.zknd, .zkne])
    (hon : i.onXlen .rv64 = true) (hops : i.operandsOk c = true) : i.wellFormed c = true := by
  rcases hz with he | hd
  · exact wellFormed_of_extension (e := .zkne) (by simp [hext]) he hx hon hops
  · exact wellFormed_of_extension (e := .zknd) (by simp [hext]) hd hx hon hops

/-- Settles O21: on RV32 the word of the round step is the whole register. -/
theorem aes32Results : Obligations.Aes32Results := by
  intro rd rs1 rs2 bs s hx
  refine ⟨fun hz => ⟨completes_bytes_rv32 (aes_wellFormed .zkne hx rfl hz rfl rfl) hx rfl fun j hj => ?_,
      completes_bytes_rv32 (aes_wellFormed .zkne hx rfl hz rfl rfl) hx rfl fun j hj => ?_⟩,
    fun hz => ⟨completes_bytes_rv32 (aes_wellFormed .zknd hx rfl hz rfl rfl) hx rfl fun j hj => ?_,
      completes_bytes_rv32 (aes_wellFormed .zknd hx rfl hz rfl rfl) hx rfl fun j hj => ?_⟩⟩
  · rw [getByte_aes32esi _ _ _ hj, getByte_readW _ _ hj, getByte_readW _ _ bs.isLt, getByte, getByte]
  · rw [getByte_aes32esmi _ _ _ hj, getByte_readW _ _ hj, getByte_readW _ _ bs.isLt, getByte, getByte]
  · rw [getByte_aes32dsi _ _ _ hj, getByte_readW _ _ hj, getByte_readW _ _ bs.isLt, getByte, getByte]
  · rw [getByte_aes32dsmi _ _ _ hj, getByte_readW _ _ hj, getByte_readW _ _ bs.isLt, getByte, getByte]

/-- Settles O22: the bytes of the final rounds. -/
theorem aes64FinalRoundResults : Obligations.Aes64FinalRoundResults := by
  intro rd rs1 rs2 s hx
  exact ⟨fun hz => completes_bytes_rv64 (aes_wellFormed .zkne hx rfl hz rfl rfl) hx rfl
      fun _ => getByte_aes64esV _ _,
    fun hz => completes_bytes_rv64 (aes_wellFormed .zknd hx rfl hz rfl rfl) hx rfl
      fun _ => getByte_aes64dsV _ _⟩

/-- Settles O23: the bytes of the middle rounds and of the inverse MixColumns alone. -/
theorem aes64MixResults : Obligations.Aes64MixResults := by
  intro rd rs1 rs2 s hx
  exact ⟨fun hz => completes_bytes_rv64 (aes_wellFormed .zkne hx rfl hz rfl rfl) hx rfl
      fun _ => getByte_aes64esmV _ _,
    fun hz => ⟨completes_bytes_rv64 (aes_wellFormed .zknd hx rfl hz rfl rfl) hx rfl
        fun _ => getByte_aes64dsmV _ _,
      completes_bytes_rv64 (aes_wellFormed .zknd hx rfl hz rfl rfl) hx rfl
        fun _ => getByte_aesMixcolumnInv64 _⟩⟩

/-- Settles O24: the bound on the round number is what makes `aes64ks1i` well formed. -/
theorem aes64KeyScheduleResults : Obligations.Aes64KeyScheduleResults := by
  intro rd rs1 rs2 n s hx hz
  refine ⟨fun hn => completes_bytes_rv64 (keySchedule_wellFormed hx hz rfl rfl ?_) hx rfl fun j hj => ?_,
    completes_bytes_rv64 (keySchedule_wellFormed hx hz rfl rfl rfl) hx rfl
      fun j hj => ?_⟩
  · exact decide_eq_true hn
  · rw [getByte_aes64ks1iV _ _ hj, getByte_aesDecodeRcon _ _ (Nat.mod_lt j (by decide)), getByte_four_add]
  · rw [getByte_aes64ks2V _ _ hj, getByte_four_add, getByte, getByte]

end Sys2Proof.Proofs
end

section
/-! The values of the SHA-2 instructions (spec/43_sha2.md R170 to R184): each function bit by bit at its own
width, and the 64-bit functions by the two 32-bit words of their argument. -/

namespace Sys2Proof.Proofs

open Sys2Proof.Machine Sys2Proof.Laws

/-! ## Bits of the two shapes: two rotations and a shift, and three rotations -/

section

variable {w k a b c : Nat} (v : BitVec w)

theorem rotateRight_getLsbD {n : Nat} (hn : n < w) (hk : k < w) :
    (v.rotateRight n).getLsbD k = v.getLsbD ((k + n) % w) :=
  rorV_getLsbD v hn hk

theorem sigma_getLsbD (ha : a < w) (hb : b < w) (hk : k < w) :
    (v.rotateRight a ^^^ v.rotateRight b ^^^ v >>> c).getLsbD k =
      (v.getLsbD ((k + a) % w) ^^ v.getLsbD ((k + b) % w) ^^ v.getLsbD (k + c)) := by
  rw [BitVec.getLsbD_xor, BitVec.getLsbD_xor, rotateRight_getLsbD v ha hk, rotateRight_getLsbD v hb hk,
    BitVec.getLsbD_ushiftRight, Nat.add_comm c k]

theorem sum_getLsbD (ha : a < w) (hb : b < w) (hc : c < w) (hk : k < w) :
    (v.rotateRight a ^^^ v.rotateRight b ^^^ v.rotateRight c).getLsbD k =
      (v.getLsbD ((k + a) % w) ^^ v.getLsbD ((k + b) % w) ^^ v.getLsbD ((k + c) % w)) := by
  rw [BitVec.getLsbD_xor, BitVec.getLsbD_xor, rotateRight_getLsbD v ha hk, rotateRight_getLsbD v hb hk,
    rotateRight_getLsbD v hc hk]

end

/-! ## Words of a 64-bit value -/

section

variable (x y : XWord) (hi lo : Word32) {n k : Nat}

theorem loWord_getLsbD (hk : k < 32) : (loWord x).getLsbD k = x.getLsbD k := by
  rw [loWord, BitVec.getLsbD_extractLsb', decide_eq_true hk, Bool.true_and, Nat.zero_add]

theorem hiWord_getLsbD (hk : k < 32) : (hiWord x).getLsbD k = x.getLsbD (32 + k) := by
  rw [hiWord, BitVec.getLsbD_extractLsb', decide_eq_true hk, Bool.true_and]

@[simp] theorem loWord_xor : loWord (x ^^^ y) = loWord x ^^^ loWord y :=
  BitVec.extractLsb'_xor

@[simp] theorem hiWord_xor : hiWord (x ^^^ y) = hiWord x ^^^ hiWord y :=
  BitVec.extractLsb'_xor

/-- The word that the window of 32 bits from bit `n` of `hi || lo` shows. -/
theorem funnel_getLsbD (hn : n ≤ 32) (hk : k < 32) :
    (lo >>> n ^^^ hi <<< (32 - n)).getLsbD k = (hi ++ lo : XWord).getLsbD (k + n) := by
  rw [BitVec.getLsbD_append, BitVec.getLsbD_xor, BitVec.getLsbD_ushiftRight, BitVec.getLsbD_shiftLeft,
    decide_eq_true hk, Bool.true_and]
  by_cases hlo : k + n < 32
  · rw [if_pos hlo, decide_eq_true (by omega : k < 32 - n), Bool.not_true, Bool.false_and, Bool.xor_false,
      Nat.add_comm]
  · rw [if_neg hlo, BitVec.getLsbD_of_ge lo _ (by omega), decide_eq_false (by omega : ¬ k < 32 - n),
      Bool.not_false, Bool.true_and, Bool.false_xor]
    congr 1
    omega

theorem loWord_ushiftRight (hn : n ≤ 32) :
    loWord ((hi ++ lo : XWord) >>> n) = lo >>> n ^^^ hi <<< (32 - n) := by
  refine BitVec.eq_of_getLsbD_eq fun k hk => ?_
  rw [loWord_getLsbD _ hk, BitVec.getLsbD_ushiftRight, funnel_getLsbD _ _ hn hk, Nat.add_comm n k]

theorem hiWord_ushiftRight : hiWord ((hi ++ lo : XWord) >>> n) = hi >>> n := by
  refine BitVec.eq_of_getLsbD_eq fun k hk => ?_
  rw [hiWord_getLsbD _ hk, BitVec.getLsbD_ushiftRight, BitVec.getLsbD_append, if_neg (by omega),
    BitVec.getLsbD_ushiftRight]
  congr 1
  omega

/-- Half a turn exchanges the words. -/
theorem append_getLsbD_half_turn (hk : k < 64) :
    (hi ++ lo : XWord).getLsbD ((k + 32) % 64) = (lo ++ hi : XWord).getLsbD k := by
  rw [BitVec.getLsbD_append, BitVec.getLsbD_append]
  split
  · rw [if_neg (by omega)]
    congr 1
    omega
  · rw [if_pos (by omega)]
    congr 1
    omega

theorem rotateRight_append_of_ge (hn : 32 ≤ n) (hn' : n < 64) :
    (hi ++ lo : XWord).rotateRight n = (lo ++ hi : XWord).rotateRight (n - 32) := by
  refine BitVec.eq_of_getLsbD_eq fun k hk => ?_
  rw [rotateRight_getLsbD _ hn' hk, rotateRight_getLsbD _ (by omega) hk,
    ← append_getLsbD_half_turn hi lo (Nat.mod_lt _ (by decide))]
  congr 1
  omega

/-- The high word of a rotation is the low word of the rotation with the words exchanged. -/
theorem hiWord_rotateRight_append (hn : n < 64) :
    hiWord ((hi ++ lo : XWord).rotateRight n) = loWord ((lo ++ hi : XWord).rotateRight n) := by
  refine BitVec.eq_of_getLsbD_eq fun k hk => ?_
  rw [hiWord_getLsbD _ hk, loWord_getLsbD _ hk, rotateRight_getLsbD _ hn (by omega),
    rotateRight_getLsbD _ hn (by omega), ← append_getLsbD_half_turn hi lo (Nat.mod_lt _ (by decide))]
  congr 1
  omega

theorem loWord_rotateRight (hn : n ≤ 32) :
    loWord ((hi ++ lo : XWord).rotateRight n) = lo >>> n ^^^ hi <<< (32 - n) := by
  refine BitVec.eq_of_getLsbD_eq fun k hk => ?_
  rw [loWord_getLsbD _ hk, rotateRight_getLsbD _ (by omega) (by omega), funnel_getLsbD _ _ hn hk,
    Nat.mod_eq_of_lt (by omega)]

theorem hiWord_rotateRight (hn : n ≤ 32) :
    hiWord ((hi ++ lo : XWord).rotateRight n) = hi >>> n ^^^ lo <<< (32 - n) := by
  rw [hiWord_rotateRight_append hi lo (by omega), loWord_rotateRight lo hi hn]

end

/-! ## The halves of the SHA-512 functions (R175 to R180) -/

section

variable (a b : Word32)

theorem xor_left_comm_word (c : Word32) : a ^^^ (b ^^^ c) = b ^^^ (a ^^^ c) := by
  rw [← BitVec.xor_assoc, BitVec.xor_comm a b, BitVec.xor_assoc]

theorem sha512sig0lV_eq : sha512sig0lV a b = loWord (sha512sig0V (b ++ a)) := by
  simp (disch := decide) only [sha512sig0V, sha512sig0lV, loWord_xor, loWord_rotateRight,
    loWord_ushiftRight, Nat.reduceSub]
  simp only [BitVec.xor_assoc, BitVec.xor_comm, xor_left_comm_word]

theorem sha512sig0hV_eq : sha512sig0hV a b = hiWord (sha512sig0V (a ++ b)) := by
  simp (disch := decide) only [sha512sig0V, sha512sig0hV, hiWord_xor, hiWord_rotateRight,
    hiWord_ushiftRight, Nat.reduceSub]
  simp only [BitVec.xor_assoc, BitVec.xor_comm, xor_left_comm_word]

theorem sha512sig1lV_eq : sha512sig1lV a b = loWord (sha512sig1V (b ++ a)) := by
  simp (disch := decide) only [sha512sig1V, sha512sig1lV, loWord_xor, rotateRight_append_of_ge,
    loWord_rotateRight, loWord_ushiftRight, Nat.reduceSub]
  simp only [BitVec.xor_assoc, BitVec.xor_comm, xor_left_comm_word]

theorem sha512sig1hV_eq : sha512sig1hV a b = hiWord (sha512sig1V (a ++ b)) := by
  simp (disch := decide) only [sha512sig1V, sha512sig1hV, hiWord_xor, rotateRight_append_of_ge,
    hiWord_rotateRight, hiWord_ushiftRight, Nat.reduceSub]
  simp only [BitVec.xor_assoc, BitVec.xor_comm, xor_left_comm_word]

/-- A sum of rotations alone turns with its argument, so one instruction serves for both halves. -/
theorem hiWord_sum_append {n m k : Nat} (hn : n < 64) (hm : m < 64) (hk : k < 64) :
    hiWord ((a ++ b : XWord).rotateRight n ^^^ (a ++ b : XWord).rotateRight m ^^^
        (a ++ b : XWord).rotateRight k) =
      loWord ((b ++ a : XWord).rotateRight n ^^^ (b ++ a : XWord).rotateRight m ^^^
        (b ++ a : XWord).rotateRight k) := by
  rw [hiWord_xor, hiWord_xor, loWord_xor, loWord_xor, hiWord_rotateRight_append _ _ hn,
    hiWord_rotateRight_append _ _ hm, hiWord_rotateRight_append _ _ hk]

theorem sha512sum0rV_eq_loWord : sha512sum0rV a b = loWord (sha512sum0V (b ++ a)) := by
  simp (disch := decide) only [sha512sum0V, sha512sum0rV, loWord_xor, rotateRight_append_of_ge,
    loWord_rotateRight, Nat.reduceSub]
  simp only [BitVec.xor_assoc, BitVec.xor_comm, xor_left_comm_word]

theorem sha512sum1rV_eq_loWord : sha512sum1rV a b = loWord (sha512sum1V (b ++ a)) := by
  simp (disch := decide) only [sha512sum1V, sha512sum1rV, loWord_xor, rotateRight_append_of_ge,
    loWord_rotateRight, Nat.reduceSub]
  simp only [BitVec.xor_assoc, BitVec.xor_comm, xor_left_comm_word]

theorem sha512sum0rV_eq_hiWord : sha512sum0rV a b = hiWord (sha512sum0V (a ++ b)) := by
  rw [sha512sum0rV_eq_loWord, sha512sum0V, sha512sum0V,
    hiWord_sum_append a b (by decide) (by decide) (by decide)]

theorem sha512sum1rV_eq_hiWord : sha512sum1rV a b = hiWord (sha512sum1V (a ++ b)) := by
  rw [sha512sum1rV_eq_loWord, sha512sum1V, sha512sum1V,
    hiWord_sum_append a b (by decide) (by decide) (by decide)]

end

end Sys2Proof.Proofs
end

section
/-! The results of the SHA-2 instructions (spec/43_sha2.md R171 to R185): a function of the low word on both
widths, a function of the whole register on RV64, half of a function of two registers on RV32. -/

namespace Sys2Proof.Proofs

open Sys2Proof.Machine Sys2Proof.Laws

theorem zknh_wellFormed {i : Instr} {c : Config} {x : Xlen} (hz : c.ext.zknh = true) (hx : c.xlen = x)
    (hext : i.extensions = [.zknh]) (hon : i.onXlen x = true) (hops : i.operandsOk c = true) :
    i.wellFormed c = true :=
  wellFormed_of_extension (e := .zknh) (by rw [hext]; exact List.mem_singleton_self _) hz hx hon hops

/-- The low word as a shift sees it: nothing enters from above bit 31. -/
theorem readW_getLsbD_all (s : State) (r : Reg) (k : Nat) :
    (s.readW r).getLsbD k = (decide (k < 32) && (s.readX r).getLsbD k) :=
  BitVec.getLsbD_setWidth ..

/-- Any property of the zero-extended word will do: on RV32 the sign extension is that word. -/
theorem completes_zextX_rv32 {i : Instr} {s : State} {v : Word32} {P : XWord → Prop}
    (hwf : i.wellFormed s.cfg = true) (hx : s.cfg.xlen = .rv32)
    (hexec : exec i s = compute i (sextX s.cfg.xlen v) s) (hP : P (zextX v)) : completes i s P :=
  completes_of_compute hwf hexec (sextX_lt _ v) (by rw [hx]; exact hP)

/-- Settles O28: the bits of the word functions, read from the low word of the register. -/
theorem sha256Results : Obligations.Sha256Results := by
  intro rd rs1 s hz
  have hlow (k : Nat) : (s.readW rs1).getLsbD (k % 32) = (s.readX rs1).getLsbD (k % 32) :=
    readW_getLsbD s rs1 (Nat.mod_lt k (by decide))
  refine ⟨completes_sextX (zknh_wellFormed hz rfl rfl rfl rfl) rfl rfl fun k hk => ?_,
    completes_sextX (zknh_wellFormed hz rfl rfl rfl rfl) rfl rfl fun k hk => ?_,
    completes_sextX (zknh_wellFormed hz rfl rfl rfl rfl) rfl rfl fun k hk => ?_,
    completes_sextX (zknh_wellFormed hz rfl rfl rfl rfl) rfl rfl fun k hk => ?_⟩
  · rw [sha256sig0V, sigma_getLsbD _ (by decide) (by decide) hk, hlow, hlow, readW_getLsbD_all]
  · rw [sha256sig1V, sigma_getLsbD _ (by decide) (by decide) hk, hlow, hlow, readW_getLsbD_all]
  · rw [sha256sum0V, sum_getLsbD _ (by decide) (by decide) (by decide) hk, hlow, hlow, hlow]
  · rw [sha256sum1V, sum_getLsbD _ (by decide) (by decide) (by decide) hk, hlow, hlow, hlow]

/-- Settles O29: the bits of the 64-bit functions. -/
theorem sha512Rv64Results : Obligations.Sha512Rv64Results := by
  intro rd rs1 s hz hx
  exact ⟨completes_rv64 (zknh_wellFormed hz hx rfl rfl rfl) hx rfl
      fun _ => sigma_getLsbD _ (by decide) (by decide),
    completes_rv64 (zknh_wellFormed hz hx rfl rfl rfl) hx rfl
      fun _ => sigma_getLsbD _ (by decide) (by decide),
    completes_rv64 (zknh_wellFormed hz hx rfl rfl rfl) hx rfl
      fun _ => sum_getLsbD _ (by decide) (by decide) (by decide),
    completes_rv64 (zknh_wellFormed hz hx rfl rfl rfl) hx rfl
      fun _ => sum_getLsbD _ (by decide) (by decide) (by decide)⟩

/-- Settles O30: the halves of the 64-bit functions (R185). -/
theorem sha512Rv32Results : Obligations.Sha512Rv32Results := by
  intro rd rs1 rs2 s hz hx
  exact ⟨completes_zextX_rv32 (zknh_wellFormed hz hx rfl rfl rfl) hx rfl
      (congrArg zextX (sha512sig0lV_eq _ _)),
    completes_zextX_rv32 (zknh_wellFormed hz hx rfl rfl rfl) hx rfl
      (congrArg zextX (sha512sig0hV_eq _ _)),
    completes_zextX_rv32 (zknh_wellFormed hz hx rfl rfl rfl) hx rfl
      (congrArg zextX (sha512sig1lV_eq _ _)),
    completes_zextX_rv32 (zknh_wellFormed hz hx rfl rfl rfl) hx rfl
      (congrArg zextX (sha512sig1hV_eq _ _)),
    completes_zextX_rv32 (zknh_wellFormed hz hx rfl rfl rfl) hx rfl
      ⟨congrArg zextX (sha512sum0rV_eq_loWord _ _), congrArg zextX (sha512sum0rV_eq_hiWord _ _)⟩,
    completes_zextX_rv32 (zknh_wellFormed hz hx rfl rfl rfl) hx rfl
      ⟨congrArg zextX (sha512sum1rV_eq_loWord _ _), congrArg zextX (sha512sum1rV_eq_hiWord _ _)⟩⟩

end Sys2Proof.Proofs
end

section
/-! The values of the SM4 and SM3 instructions (spec/44_sm4_sm3.md R190 to R196). A linear layer of SM4 is a
sum of fields of the S-box output, each put in its place in a word; cutting the word where the fields begin and
end shows which of them each piece holds. The SM3 functions are sums of rotations, bit by bit. -/

namespace Sys2Proof.Proofs

open Sys2Proof.Machine Sys2Proof.Laws

/-! ## Fields put in their places -/

section

variable {w n p l : Nat}

/-- Past its width a value has only zero bits. -/
theorem extractLsb'_of_width_le (f : BitVec w) (h : w ≤ p) : f.extractLsb' p l = 0 := by
  refine BitVec.eq_of_getLsbD_eq fun k hk => ?_
  rw [BitVec.getLsbD_extractLsb', BitVec.getLsbD_of_ge f _ (by omega), Bool.and_false]
  exact BitVec.getLsbD_zero.symm

theorem extractLsb'_extractLsb'_add (f : BitVec w) {q m : Nat} (h : p + l ≤ m) :
    (f.extractLsb' q m).extractLsb' p l = f.extractLsb' (q + p) l := by
  refine BitVec.eq_of_getLsbD_eq fun k hk => ?_
  simp only [BitVec.getLsbD_extractLsb', decide_eq_true hk, decide_eq_true (by omega : p + k < m),
    Bool.true_and, Nat.add_assoc]

/-- A piece of the word that begins where the field `f` does, or above. -/
theorem extractLsb'_placed_of_le (f : BitVec w) (hn : n ≤ p) (hp : p + l ≤ 32) :
    (f.setWidth 32 <<< n).extractLsb' p l = f.extractLsb' (p - n) l := by
  refine BitVec.eq_of_getLsbD_eq fun k hk => ?_
  simp only [BitVec.getLsbD_extractLsb', BitVec.getLsbD_shiftLeft, BitVec.getLsbD_setWidth,
    decide_eq_true hk, decide_eq_true (by omega : p + k < 32), decide_eq_false (by omega : ¬ p + k < n),
    decide_eq_true (by omega : p + k - n < 32), Bool.true_and, Bool.not_false]
  congr 1
  omega

/-- A piece of the word that ends where the field `f` begins, or below. -/
theorem extractLsb'_placed_of_ge (f : BitVec w) (h : p + l ≤ n) :
    (f.setWidth 32 <<< n).extractLsb' p l = 0 := by
  refine BitVec.eq_of_getLsbD_eq fun k hk => ?_
  rw [BitVec.getLsbD_extractLsb', BitVec.getLsbD_shiftLeft, decide_eq_true (by omega : p + k < n),
    Bool.not_true, Bool.and_false, Bool.false_and, Bool.and_false]
  exact BitVec.getLsbD_zero.symm

end

/-! ## The linear layers of SM4 (R192, R193) -/

section

variable (s : Byte)

/-- A masked and shifted S-box output is a field of it, put in its place. -/
theorem masked_byte_shiftLeft (pos n k : Nat) (h : pos + n ≤ 8) :
    (s.setWidth 32 &&& (BitVec.allOnes n).setWidth 32 <<< pos) <<< k =
      (s.extractLsb' pos n).setWidth 32 <<< (pos + k) := by
  rw [← field_in_place _ _ (by omega), BitVec.extractLsb'_setWidth_of_le (by omega), BitVec.shiftLeft_add]

theorem sm4edY_eq_sum : sm4edY (s.setWidth 32) =
    s.setWidth 32 ^^^ s.setWidth 32 <<< 8 ^^^ s.setWidth 32 <<< 2 ^^^ s.setWidth 32 <<< 18 ^^^
      (s.extractLsb' 0 6).setWidth 32 <<< 26 ^^^ (s.extractLsb' 6 2).setWidth 32 <<< 16 := by
  rw [← masked_byte_shiftLeft s 0 6 26 (by decide), ← masked_byte_shiftLeft s 6 2 10 (by decide)]
  rfl

theorem sm4ksY_eq_sum : sm4ksY (s.setWidth 32) =
    s.setWidth 32 ^^^ (s.extractLsb' 0 3).setWidth 32 <<< 29 ^^^
      (s.extractLsb' 1 7).setWidth 32 <<< 8 ^^^ (s.extractLsb' 0 1).setWidth 32 <<< 23 ^^^
      (s.extractLsb' 3 5).setWidth 32 <<< 16 := by
  rw [← masked_byte_shiftLeft s 0 3 29 (by decide), ← masked_byte_shiftLeft s 1 7 7 (by decide),
    ← masked_byte_shiftLeft s 0 1 23 (by decide), ← masked_byte_shiftLeft s 3 5 13 (by decide)]
  rfl

/-- A word cut where the fields of `sm4edY` begin and end. -/
theorem cut_at_sm4ed_fields (y : Word32) :
    y.extractLsb' 26 6 ++ y.extractLsb' 18 8 ++ y.extractLsb' 16 2 ++ y.extractLsb' 10 6 ++
      y.extractLsb' 8 2 ++ y.extractLsb' 2 6 ++ y.extractLsb' 0 2 = y := by
  iterate 6 rw [BitVec.extractLsb'_append_extractLsb'_eq_extractLsb' (by rfl)]
  exact BitVec.extractLsb'_eq_self

/-- A word cut where the fields of `sm4ksY` begin and end. -/
theorem cut_at_sm4ks_fields (y : Word32) :
    y.extractLsb' 29 3 ++ y.extractLsb' 24 5 ++ y.extractLsb' 23 1 ++ y.extractLsb' 21 2 ++
      y.extractLsb' 16 5 ++ y.extractLsb' 15 1 ++ y.extractLsb' 8 7 ++ y.extractLsb' 0 8 = y := by
  iterate 7 rw [BitVec.extractLsb'_append_extractLsb'_eq_extractLsb' (by rfl)]
  exact BitVec.extractLsb'_eq_self

theorem sm4edY_eq_fields : sm4edY (s.setWidth 32) =
    s.extractLsb' 0 6 ++ s ++ s.extractLsb' 6 2 ++ s.extractLsb' 2 6 ++
      (s.extractLsb' 0 2 ^^^ s.extractLsb' 6 2) ++ (s.extractLsb' 2 6 ^^^ s.extractLsb' 0 6) ++
      s.extractLsb' 0 2 := by
  rw [← cut_at_sm4ed_fields (sm4edY _), sm4edY_eq_sum]
  simp [BitVec.extractLsb'_xor, BitVec.extractLsb'_setWidth_of_le, extractLsb'_placed_of_le,
    extractLsb'_placed_of_ge, extractLsb'_of_width_le, extractLsb'_extractLsb'_add]

theorem sm4ksY_eq_fields : sm4ksY (s.setWidth 32) =
    s.extractLsb' 0 3 ++ (0 : BitVec 5) ++ s.extractLsb' 0 1 ++ (0 : BitVec 2) ++ s.extractLsb' 3 5 ++
      (0 : BitVec 1) ++ s.extractLsb' 1 7 ++ s := by
  rw [← cut_at_sm4ks_fields (sm4ksY _), sm4ksY_eq_sum]
  simp [BitVec.extractLsb'_xor, BitVec.extractLsb'_setWidth_of_le, extractLsb'_placed_of_le,
    extractLsb'_placed_of_ge, extractLsb'_of_width_le, extractLsb'_extractLsb'_add]

end

/-! ## Rotations of a word (R195, R196) -/

theorem rotated_sum_getLsbD (v : Word32) {a b k : Nat} (ha : a < 32) (hb : b < 32) (hk : k < 32) :
    (v ^^^ v.rotateLeft a ^^^ v.rotateLeft b).getLsbD k =
      (v.getLsbD k ^^ v.getLsbD ((k + (32 - a)) % 32) ^^ v.getLsbD ((k + (32 - b)) % 32)) := by
  rw [BitVec.getLsbD_xor, BitVec.getLsbD_xor, ← rolV, ← rolV, rolV_getLsbD v ha hk, rolV_getLsbD v hb hk,
    Nat.add_sub_assoc (Nat.le_of_lt ha), Nat.add_sub_assoc (Nat.le_of_lt hb)]

end Sys2Proof.Proofs
end

section
/-! The results of the SM4 and SM3 instructions (spec/44_sm4_sm3.md R192 to R196): functions of the low words of
the registers, sign-extended on both widths. -/

namespace Sys2Proof.Proofs

open Sys2Proof.Machine Sys2Proof.Laws

/-- A step of SM4 takes its byte from the whole register: the byte select reaches the low word only. -/
theorem sm4Step_readW (y : Word32 → Word32) (bs : BitVec 2) (a : Word32) (s : State) (r : Reg) :
    sm4Step y bs a (s.readW r) =
      a ^^^ (y ((sm4Sbox ((s.readX r).extractLsb' (8 * bs.toNat) 8)).setWidth 32)).rotateLeft
        (8 * bs.toNat) := by
  rw [sm4Step, selectByte, getByte_readW s r bs.isLt, bsShamt, BitVec.xor_comm, getByte]

/-- An SM4 instruction whose linear layer `y` is given by its fields, as a function of the S-box output. -/
theorem completes_sm4Step {i : Instr} {s : State} {rs1 rs2 : Reg} {bs : BitVec 2} {y : Word32 → Word32}
    {fields : Byte → Word32} (hwf : i.wellFormed s.cfg = true)
    (hexec : exec i s = compute i (s.opW2 (sm4Step y bs) rs1 rs2) s)
    (hy : ∀ b : Byte, y (b.setWidth 32) = fields b) :
    completes i s fun v => ∀ b : Byte, b = sm4Sbox ((s.readX rs2).extractLsb' (8 * bs.toNat) 8) →
      v = sextX s.cfg.xlen (s.readW rs1 ^^^ (fields b).rotateLeft (8 * bs.toNat)) := by
  refine completes_of_compute hwf hexec (sextX_lt _ _) fun b hb => ?_
  rw [State.opW2, sm4Step_readW, ← hb, hy]

/-- Settles O31: the two linear layers by their fields, in the common shape of the two instructions. -/
theorem sm4Results : Obligations.Sm4Results := by
  intro rd rs1 rs2 bs s hz
  exact ⟨completes_sm4Step (wellFormed_of_sole_extension .zksed rfl hz rfl rfl) rfl sm4edY_eq_fields,
    completes_sm4Step (wellFormed_of_sole_extension .zksed rfl hz rfl rfl) rfl sm4ksY_eq_fields⟩

/-- Settles O32: each function is the sum of the word and two rotations of it. -/
theorem sm3Results : Obligations.Sm3Results := by
  intro rd rs1 s hz
  have hlow (k : Nat) : (s.readW rs1).getLsbD (k % 32) = (s.readX rs1).getLsbD (k % 32) :=
    readW_getLsbD s rs1 (Nat.mod_lt k (by decide))
  refine ⟨completes_sextX (wellFormed_of_sole_extension .zksh rfl hz rfl rfl) rfl rfl fun k hk => ?_,
    completes_sextX (wellFormed_of_sole_extension .zksh rfl hz rfl rfl) rfl rfl fun k hk => ?_⟩
  · rw [sm3p0V, rotated_sum_getLsbD _ (by decide) (by decide) hk, readW_getLsbD s rs1 hk, hlow, hlow]
  · rw [sm3p1V, rotated_sum_getLsbD _ (by decide) (by decide) hk, readW_getLsbD s rs1 hk, hlow, hlow]

end Sys2Proof.Proofs
end

section
/-! The word a poll of `seed` returns (spec/45_zkr_seed.md R206 to R213; spec/10_state.md R28, R29): the statuses
each state of the source allows, the fields of the word, and what the environment can make it be. -/

namespace Sys2Proof.Proofs

open Sys2Proof.Machine Sys2Proof.Laws

/-! ## Statuses (R29, R206, R212) -/

theorem opst_code_inj {o p : Opst} : o.code = p.code ↔ o = p := by
  cases o <;> cases p <;> decide

section

variable (k : EsKind) {es : EntropySource}

theorem allowedStatuses_of_dead (h : es.dead = true) : allowedStatuses k es = [.dead] :=
  if_pos h

theorem allowedStatuses_of_noiseTest (hd : es.dead = false) (hn : es.noiseTest = true) :
    allowedStatuses k es = [.bist, .dead] := by
  rw [allowedStatuses, hd, hn, if_neg Bool.false_ne_true, if_pos rfl]

theorem allowedStatuses_of_live (hd : es.dead = false) (hn : es.noiseTest = false) :
    allowedStatuses k es = EsKind.liveStatuses k := by
  rw [allowedStatuses, hd, hn, if_neg Bool.false_ne_true, if_neg Bool.false_ne_true]

end

theorem mem_liveStatuses_physical (standard : EsStandard) (o : Opst) :
    o ∈ EsKind.liveStatuses (.physical standard) := by
  cases o <;> simp [EsKind.liveStatuses]

theorem mem_liveStatuses_virtual {strength : Nat} {hasWait hasBist : Bool} {o : Opst} :
    o ∈ EsKind.liveStatuses (.virtualDrbg strength hasWait hasBist) ↔
      o = .es16 ∨ o = .dead ∨ (o = .wait ∧ hasWait = true) ∨ (o = .bist ∧ hasBist = true) := by
  simp only [EsKind.liveStatuses, List.mem_append, List.mem_pair, List.mem_ite_nil_right,
    List.mem_singleton]
  tauto

/-- The environment can choose every allowed status, whatever else it answers. -/
theorem exists_pollStatus_eq {c : Config} {es : EntropySource} {o : Opst}
    (h : o ∈ allowedStatuses c.esKind es) (entropy : BitVec 16) (aux : BitVec 14) :
    ∃ n, pollStatus c es ⟨n, entropy, aux, true⟩ = o := by
  obtain ⟨n, hn, hget⟩ := List.getElem_of_mem h
  refine ⟨n, ?_⟩
  simp only [pollStatus, Nat.mod_eq_of_lt hn]
  rw [List.getD_eq_getElem _ _ hn, hget]

theorem pollStatus_of_dead {c : Config} {es : EntropySource} (h : es.dead = true) (d : Draw) :
    pollStatus c es d = .dead :=
  List.mem_singleton.1 (allowedStatuses_of_dead c.esKind h ▸ pollStatus_mem c es d)

/-! ## The fields of the word (R28, R208, R209) -/

section

variable (c : Config) (es : EntropySource) (d : Draw)

@[simp] theorem seedOpst_pollWord : seedOpst (pollWord c es d) = (pollStatus c es d).code :=
  seedOpst_seedWord ..

@[simp] theorem seedEntropy_pollWord :
    seedEntropy (pollWord c es d) = pollEntropy (pollStatus c es d) d :=
  seedEntropy_seedWord ..

/-- A status field, compared with the code of a status, names the status. -/
theorem seedOpst_pollWord_eq_code {o : Opst} :
    seedOpst (pollWord c es d) = o.code ↔ pollStatus c es d = o := by
  rw [seedOpst_pollWord, opst_code_inj]

theorem seedEntropy_pollWord_of_failure (h : seedOpst (pollWord c es d) ≠ 0b10) :
    seedEntropy (pollWord c es d) = 0 := by
  have hstatus : pollStatus c es d ≠ .es16 := fun e => h ((seedOpst_pollWord_eq_code c es d).2 e)
  rw [seedEntropy_pollWord, pollEntropy, if_neg hstatus]

variable {c}

theorem pollWord_aux_zero (h : c.seedAuxZero = true) :
    seedReserved (pollWord c es d) = 0 ∧ seedCustom (pollWord c es d) = 0 := by
  rw [pollWord, seedReserved_seedWord, seedCustom_seedWord, pollAux, if_pos h]
  exact ⟨rfl, rfl⟩

variable {es}

theorem seedOpst_pollWord_of_dead (h : es.dead = true) : seedOpst (pollWord c es d) = 0b11 :=
  (seedOpst_pollWord_eq_code c es d).2 (pollStatus_of_dead h d)

theorem seedOpst_pollWord_of_noiseTest (hd : es.dead = false) (hn : es.noiseTest = true) :
    seedOpst (pollWord c es d) = 0b00 ∨ seedOpst (pollWord c es d) = 0b11 := by
  have hmem := pollStatus_mem c es d
  rw [allowedStatuses_of_noiseTest _ hd hn, List.mem_pair] at hmem
  exact hmem.imp (seedOpst_pollWord_eq_code c es d).2 (seedOpst_pollWord_eq_code c es d).2

/-- A virtual source reports WAIT and BIST only where it implements them (R212). -/
theorem seedOpst_pollWord_of_virtual (hd : es.dead = false) (hn : es.noiseTest = false)
    {strength : Nat} {hasWait hasBist : Bool}
    (hk : c.esKind = .virtualDrbg strength hasWait hasBist) :
    (hasWait = false → seedOpst (pollWord c es d) ≠ 0b01) ∧
      (hasBist = false → seedOpst (pollWord c es d) ≠ 0b00) := by
  have hmem := pollStatus_mem c es d
  rw [allowedStatuses_of_live _ hd hn, hk, mem_liveStatuses_virtual] at hmem
  refine ⟨fun hw hcode => ?_, fun hb hcode => ?_⟩
  · rw [(seedOpst_pollWord_eq_code c es d (o := .wait)).1 hcode] at hmem
    simp [hw] at hmem
  · rw [(seedOpst_pollWord_eq_code c es d (o := .bist)).1 hcode] at hmem
    simp [hb] at hmem

end

/-! ## The statements about the word -/

/-- Settles O36: entropy 0 on failure; a word of all ones would report DEAD with entropy 0xFFFF. -/
theorem entropyOnFailureIsZero : Obligations.EntropyOnFailureIsZero := by
  refine fun c es d => ⟨seedEntropy_pollWord_of_failure c es d, fun hones => ?_⟩
  have hzero := seedEntropy_pollWord_of_failure c es d (by rw [hones]; decide)
  rw [hones] at hzero
  exact absurd hzero (by decide)

/-- Settles O35: the four cases of the set of R206 are the statuses the model allows, and the environment
chooses among those. -/
theorem everyAllowedPollHappens : Obligations.EveryAllowedPollHappens := by
  intro c es o aux entropy hset
  have hallowed : o ∈ allowedStatuses c.esKind es := by
    obtain ⟨hd, rfl⟩ | ⟨hd, hn, ho⟩ | ⟨hd, hn, standard, hk⟩ |
      ⟨hd, hn, k, hasWait, hasBist, hk, ho⟩ := hset
    · rw [allowedStatuses_of_dead _ hd]
      exact List.mem_singleton.2 rfl
    · rw [allowedStatuses_of_noiseTest _ hd hn]
      exact List.mem_pair.2 ho
    · rw [allowedStatuses_of_live _ hd hn, hk]
      exact mem_liveStatuses_physical standard o
    · rw [allowedStatuses_of_live _ hd hn, hk]
      exact mem_liveStatuses_virtual.2 ho
  obtain ⟨n, hn⟩ := exists_pollStatus_eq hallowed entropy aux
  refine ⟨⟨n, entropy, aux, true⟩, ?_⟩
  rw [pollWord, hn]
  rfl

end Sys2Proof.Proofs
end

section
/-! Access to `seed` (spec/45_zkr_seed.md R202 to R205, R213 to R215, R220, R221): who may poll, what the six
forms do in each mode, and what a permitted access leaves. -/

namespace Sys2Proof.Proofs

open Sys2Proof.Machine Sys2Proof.Laws

/-! ## Who may poll (R214) -/

/-- The table of R214: the exception of a read-write access in a mode, given the two access bits. -/
def deniedIn (mode : Mode) (sseed useed : Bool) : Option Exception :=
  match mode with
  | .m => none
  | .s => if sseed then none else some .illegalInstruction
  | .u => if useed then none else some .illegalInstruction
  | .vs | .vu => if sseed then some .virtualInstruction else some .illegalInstruction

theorem seedDenied_of_inMode {s : State} {mode : Mode} (h : s.inMode mode) :
    s.seedDenied = deniedIn mode s.sseed s.useed := by
  cases mode with
  | m | s | u | vs | vu =>
    obtain ⟨hpriv, hvirt⟩ := h
    simp only [State.seedDenied, hpriv, hvirt, deniedIn]

theorem seedDenied_of_m {s : State} (h : s.priv = .m) : s.seedDenied = none := by
  simp only [State.seedDenied, h]

theorem seedDenied_of_granted {s : State} (h : s.granted) : s.seedDenied = none := by
  obtain hmode | ⟨hmode, hbit⟩ | ⟨hmode, hbit⟩ := h
  · exact seedDenied_of_inMode hmode
  · rw [seedDenied_of_inMode hmode, hbit]
    rfl
  · rw [seedDenied_of_inMode hmode, hbit]
    rfl

/-! ## What the six forms do at 0x015 -/

theorem csrAt_seed {c : Config} (h : c.ext.zkr = true) : c.csrAt 0x015 = some .seed := by
  have hseed : (0x015 : CsrAddr) = seedAddr := rfl
  rw [Config.csrAt, if_pos hseed, if_pos h]

theorem not_next_of_traps {i : Instr} {s t : State} {e : Exception} (h : traps i s e) :
    exec i s ≠ .next t := by
  rw [h]
  nofun

theorem traps_of_absent {f : CsrForm} {s : State} (h : s.cfg.csrAt f.csr = none) :
    traps f.instr s .illegalInstruction := by
  rw [traps, exec_form_of_none f s h, raiseFrom_eq]

section

variable {f : CsrForm} {s : State}

theorem exec_seed_of_allowed (hcsr : f.csr = 0x015) (hzkr : s.cfg.ext.zkr = true)
    (hw : f.isWrite = true) (hd : s.seedDenied = none) :
    exec f.instr s = .next (s.poll f.rd (Config.draw s.draws)) :=
  exec_form_seed_of_granted (hcsr ▸ csrAt_seed hzkr) hw hd

theorem traps_seed_of_denied (hcsr : f.csr = 0x015) (hzkr : s.cfg.ext.zkr = true)
    (hw : f.isWrite = true) {e : Exception} (hd : s.seedDenied = some e) : traps f.instr s e := by
  have hw' : f.op.isWrite f.field = true := hw
  rw [traps, exec_form_seed f s (hcsr ▸ csrAt_seed hzkr), seedAccess, if_pos hw', hd]
  exact raiseFrom_eq ..

theorem traps_seed_of_read (hcsr : f.csr = 0x015) (hzkr : s.cfg.ext.zkr = true)
    (hr : f.isWrite = false) : traps f.instr s .illegalInstruction := by
  have hr' : ¬ f.op.isWrite f.field = true := Bool.not_eq_true _ ▸ hr
  rw [traps, exec_form_seed f s (hcsr ▸ csrAt_seed hzkr), seedAccess, if_neg hr', raiseFrom_eq]

/-- A read-write form at 0x015 that completes was permitted and polled. -/
theorem exec_seed_next (hcsr : f.csr = 0x015) (hw : f.isWrite = true) {t : State}
    (h : exec f.instr s = .next t) : s.cfg.ext.zkr = true ∧ s.seedDenied = none ∧
      t = s.poll f.rd (Config.draw s.draws) := by
  cases hzkr : s.cfg.ext.zkr with
  | false => exact absurd h (not_next_of_traps (traps_of_absent (hcsr ▸ csrAt_seed_of_not_zkr hzkr)))
  | true =>
    cases hd : s.seedDenied with
    | some e => exact absurd h (not_next_of_traps (traps_seed_of_denied hcsr hzkr hw hd))
    | none =>
      rw [exec_seed_of_allowed hcsr hzkr hw hd] at h
      cases h
      exact ⟨rfl, rfl, rfl⟩

end

/-- Settles O39: the address has no CSR. -/
theorem seedWithoutZkrTraps : Obligations.SeedWithoutZkrTraps :=
  fun _ _ hcsr hzkr => traps_of_absent (hcsr ▸ csrAt_seed_of_not_zkr hzkr)

/-- Settles O37: a cell with a permitted access is `exec_seed_of_allowed`, any other `traps_seed_of_denied`, at
the entry of the table for that mode and bit. -/
theorem seedAccessTable : Obligations.SeedAccessTable := by
  intro f s hcsr hzkr
  refine ⟨mseccfg_getLsbD s 9, mseccfg_getLsbD s 8, traps_seed_of_read hcsr hzkr, fun hw => ?_⟩
  have polls {mode : Mode} (hmode : s.inMode mode) (hnone : deniedIn mode s.sseed s.useed = none) :=
    exec_seed_of_allowed hcsr hzkr hw ((seedDenied_of_inMode hmode).trans hnone)
  have raises {mode : Mode} {e : Exception} (hmode : s.inMode mode)
      (hsome : deniedIn mode s.sseed s.useed = some e) :=
    traps_seed_of_denied hcsr hzkr hw ((seedDenied_of_inMode hmode).trans hsome)
  exact ⟨fun hmode => polls hmode rfl,
    fun hmode hbit => raises hmode (by rw [hbit]; rfl), fun hmode hbit => polls hmode (by rw [hbit]; rfl),
    fun hmode hbit => raises hmode (by rw [hbit]; rfl), fun hmode hbit => polls hmode (by rw [hbit]; rfl),
    fun hmode hbit => raises hmode (by rw [hbit]; rfl), fun hmode hbit => raises hmode (by rw [hbit]; rfl),
    fun hmode hbit => raises hmode (by rw [hbit]; rfl), fun hmode hbit => raises hmode (by rw [hbit]; rfl)⟩

/-! ## What a permitted access leaves (R203, R205, R213, R220) -/

theorem code_beq_dead (o : Opst) : (o.code == 0b11) = decide (o = .dead) := by
  cases o <;> rfl

/-- With a destination the poll takes place, and DEAD in the word is DEAD in the source. -/
theorem poll_es_of_ne_zero (s : State) {rd : Reg} (hrd : rd ≠ 0) (d : Draw) : (s.poll rd d).es =
    { s.es with dead := s.es.dead || (seedOpst (pollWord s.cfg s.es d) == 0b11) } := by
  rw [poll_es, if_neg (fun h => hrd h.1), seedOpst_pollWord, code_beq_dead, EntropySource.afterPoll]

/-- A poll leaves the source as it was or turns it dead. -/
theorem afterPoll_cases (es : EntropySource) (o : Opst) :
    es.afterPoll o = es ∨ es.afterPoll o = { es with dead := true } := by
  rw [EntropySource.afterPoll]
  cases decide (o = .dead) with
  | false => exact .inl (by rw [Bool.or_false])
  | true => exact .inr (by rw [Bool.or_true])

theorem poll_es_cases (s : State) (rd : Reg) (d : Draw) :
    (s.poll rd d).es = s.es ∨ (s.poll rd d).es = { s.es with dead := true } := by
  rw [poll_es]
  split
  · exact .inl rfl
  · exact afterPoll_cases ..

/-- Settles O33: the state after the access is the poll, and each conjunct is one of its lemmas. -/
theorem seedPollResult : Obligations.SeedPollResult := by
  intro f s hcsr hw hzkr hgrant hrd
  have hwrites := poll_writesOne s f.rd (Config.draw s.draws)
  exact ⟨_, pollWord s.cfg s.es (Config.draw s.draws),
    exec_seed_of_allowed hcsr hzkr hw (seedDenied_of_granted hgrant),
    hwrites.readX_rd hrd (zextX_lt ..), seedOpst_pollWord_of_dead _, seedOpst_pollWord_of_noiseTest _,
    fun hd hn _ _ _ => seedOpst_pollWord_of_virtual _ hd hn, seedEntropy_pollWord_of_failure _ _ _,
    pollWord_aux_zero _ _, poll_es_of_ne_zero s hrd _, nextPc_toNat s, hwrites.onlyRegister,
    rfl, rfl, rfl, rfl, rfl, rfl⟩

/-- Settles O34: the write to `x0` is discarded. -/
theorem seedToX0 : Obligations.SeedToX0 := by
  intro f s hcsr hw hzkr hgrant hrd
  refine ⟨_, exec_seed_of_allowed hcsr hzkr hw (seedDenied_of_granted hgrant), fun r => ?_,
    poll_es_cases .., nextPc_toNat s, rfl, rfl, rfl, rfl, rfl, rfl⟩
  rw [readX_poll, hrd, if_neg (fun h => h.2 h.1)]

/-! ## What the access does not depend on (R204) -/

theorem sameButRegsAndMem_of_sameButRegs {s t : State} (h : sameButRegs s t) :
    sameButRegsAndMem s t := by
  unfold sameButRegs at h
  rw [h]
  exact sameButRegsAndMem_iff.2 ⟨rfl, rfl, rfl, rfl, rfl, rfl, rfl, rfl⟩

/-- Settles O38: both accesses poll, with one configuration, source and draw, and into one register. -/
theorem writtenValueIgnored : Obligations.WrittenValueIgnored := by
  intro f g s s' t hcsr halike hf hg hregs hexec
  obtain ⟨hrd, hcsr'⟩ := halike
  obtain ⟨hzkr, hd, rfl⟩ := exec_seed_next hcsr hf hexec
  have hs : sameButRegsAndMem s s' := sameButRegsAndMem_of_sameButRegs hregs
  obtain ⟨hcfg, -, -, -, -, -, hes, hdraws⟩ := sameButRegsAndMem_iff.1 hs
  have hexec' := exec_seed_of_allowed (hcsr' ▸ hcsr) (hcfg ▸ hzkr) hg ((seedDenied_congr hs).trans hd)
  rw [hdraws, ← hrd] at hexec'
  have hwrite := poll_writesOne s' f.rd (Config.draw s.draws)
  rw [hcfg, hes] at hwrite
  obtain ⟨-, hpc, -, -, -, -, hes', hdraws'⟩ :=
    sameButRegsAndMem_iff.1 (poll_same hs f.rd (Config.draw s.draws))
  exact ⟨_, hexec', (poll_writesOne ..).readX_rd_congr hwrite hcfg, hes', hdraws', hpc⟩

end Sys2Proof.Proofs
end

section
/-! The machine CSRs outside and inside M mode (spec/45_zkr_seed.md R216, R217, R234): the traps of the lower
modes, `mseccfgh`, and the discovery procedure on `mseccfg`. -/

namespace Sys2Proof.Proofs

open Sys2Proof.Machine Sys2Proof.Laws

/-! ## Outside M mode -/

theorem csrAt_ne_seed {c : Config} {a : CsrAddr} (h : a ≠ 0x015) : c.csrAt a ≠ some .seed := by
  have hseed : a ≠ seedAddr := h
  rw [Config.csrAt, if_neg hseed]
  split_ifs <;> nofun

theorem machineOnly_of_not_m {s : State} (h : s.priv ≠ .m) (i : Instr)
    (k : Host.Outcome State Fault Refusal) : machineOnly i s k = raiseFrom .illegalInstruction i s :=
  if_neg h

/-- Settles O44: at an address other than that of `seed` there is a machine CSR or none. -/
theorem machineCsrsTrapOutsideM : Obligations.MachineCsrsTrapOutsideM := by
  intro f s hpriv hcsr _
  cases hat : s.cfg.csrAt f.csr with
  | none => exact traps_of_absent hat
  | some n =>
    cases n with
    | seed => exact absurd hat (csrAt_ne_seed hcsr)
    | mseccfg => rw [traps, exec_form_mseccfg f s hat, machineOnly_of_not_m hpriv, raiseFrom_eq]
    | mseccfgh => rw [traps, exec_form_mseccfgh f s hat, machineOnly_of_not_m hpriv, raiseFrom_eq]
    | mnoise => rw [traps, exec_form_mnoise f s hat, machineOnly_of_not_m hpriv, raiseFrom_eq]

/-! ## `mseccfgh` in M mode -/

theorem csrAt_mseccfghAddr {c : Config} (hseed : c.mseccfghAddr ≠ seedAddr)
    (hlow : c.mseccfghAddr ≠ c.mseccfgAddr) (hx : c.xlen = .rv32)
    (h : c.ext.zkr = true ∨ c.mseccfgOther = true) : c.csrAt c.mseccfghAddr = some .mseccfgh := by
  have hexists : c.mseccfgExists = true := Bool.or_eq_true_iff.2 h
  rw [Config.csrAt, if_neg hseed, if_neg hlow, if_pos ⟨rfl, hx⟩, if_pos hexists]

/-- Settles O42: the access leaves what a computational instruction with the value 0 leaves. -/
theorem mseccfghResults : Obligations.MseccfghResults := by
  intro f s hcsr hx hseed hlow hexists hm
  have hat : s.cfg.csrAt f.csr = some .mseccfgh := by
    rw [hcsr]
    exact csrAt_mseccfghAddr hseed hlow hx hexists
  have hwf : f.instr.wellFormed s.cfg = true := by rw [wellFormed_form, hat]; rfl
  have hexec : exec f.instr s = compute f.instr 0 s := by
    rw [exec_form_mseccfgh f s hat, machineOnly_of_m hm, compute_of_wellFormed hwf, instr_rd,
      State.accessMseccfgh]
  exact completes_of_compute hwf hexec (Nat.two_pow_pos _) rfl

/-! ## The discovery procedure (R216) -/

/-- Writing 1 to both bits leaves in each whether it can be written. -/
theorem accessMseccfg_bits_of_write_ones (s : State) (rd : Reg) (field : BitVec 5) :
    (s.accessMseccfg rd .rw field 0x300).sseed = s.cfg.sseedIsWritable ∧
      (s.accessMseccfg rd .rw field 0x300).useed = s.cfg.useedIsWritable := by
  have hw : CsrOp.rw.isWrite field = true := rfl
  have h9 : newBit .rw s.sseed ((0x300 : XWord).getLsbD 9) = true := rfl
  have h8 : newBit .rw s.useed ((0x300 : XWord).getLsbD 8) = true := rfl
  rw [accessMseccfg_sseed_of_write hw, accessMseccfg_useed_of_write hw, h9, h8, Bool.and_true,
    Bool.and_true]
  exact ⟨rfl, rfl⟩

/-- Settles O41: the write leaves the writability in the two bits, and the read, which changes neither,
returns them. -/
theorem mseccfgDiscovery : Obligations.MseccfgDiscovery := by
  intro rs1 rd s t hseed hm hexists hrd hsrc hexec
  have hat : s.cfg.csrAt s.cfg.mseccfgAddr = some .mseccfg := csrAt_mseccfgAddr hseed hexists
  have hwrite := exec_mseccfg_of_m (f := ⟨.rw, false, 0, s.cfg.mseccfgAddr, rs1⟩) hat hm
  have hones : CsrForm.source ⟨.rw, false, 0, s.cfg.mseccfgAddr, rs1⟩ s = 0x300 := hsrc
  rw [hones] at hwrite
  cases hwrite.symm.trans hexec
  obtain ⟨hsseed, huseed⟩ := accessMseccfg_bits_of_write_ones s 0 rs1
  set t := s.accessMseccfg 0 .rw rs1 0x300
  have hcfg : t.cfg = s.cfg := accessMseccfg_cfg ..
  have hread := exec_mseccfg_of_m (f := ⟨.rs, false, rd, s.cfg.mseccfgAddr, 0⟩) (s := t) (hcfg ▸ hat)
    ((accessMseccfg_priv ..).trans hm)
  have hval := (accessMseccfg_writesOne t rd .rs 0 (t.readX 0)).readX_rd hrd (mseccfg_lt ..)
  obtain ⟨hs, hu⟩ := accessMseccfg_bits_of_read (op := .rs) (field := 0) rfl t rd (t.readX 0)
  refine ⟨_, hread, ?_, ?_, hs.trans hsseed, hu.trans huseed⟩
  · exact (congrArg (·.getLsbD 9) hval).trans ((mseccfg_getLsbD t 9).trans hsseed)
  · exact (congrArg (·.getLsbD 8) hval).trans ((mseccfg_getLsbD t 8).trans huseed)

end Sys2Proof.Proofs
end

section
/-! What runs keep of the access bits and of the entropy source (spec/45_zkr_seed.md R206, R213, R214, R217,
R234): outside M mode the grant, without the grant the source, and everywhere DEAD. -/

namespace Sys2Proof.Proofs

open Sys2Proof.Machine Sys2Proof.Laws

/-- What every step keeps holds at the end of a run. -/
theorem run_keeps {P : State → Prop} (hstep : ∀ s t, step s = .next t → P s → P t) {k : Nat}
    {s t : State} (h : Sys2Proof.core.run k s = .next t) (hs : P s) : P t :=
  run_induction (R := fun s t => P s → P t) (fun _ => id)
    (fun s u _ hsu hut hs => hut (hstep s u hsu hs)) k s t h hs

/-! ## Outside M mode -/

/-- Outside M mode a step computes or polls. -/
theorem step_of_not_m {s t : State} (h : step s = .next t) (hpriv : s.priv ≠ .m) :
    (∃ rd v, t = s.retire rd v) ∨ (s.seedDenied = none ∧ ∃ rd d, t = s.poll rd d) := by
  obtain ⟨_, i, -, -, hexec⟩ := step_next h
  obtain ⟨-, -, v, rfl⟩ | ⟨f, rfl, hcsr⟩ := exec_next hexec
  · exact .inl ⟨_, v, rfl⟩
  obtain ⟨-, -, hd, rfl⟩ | ⟨-, hm, -⟩ | ⟨-, hm, -⟩ | ⟨-, hm, -⟩ := hcsr
  case inl => exact .inr ⟨hd, _, _, rfl⟩
  all_goals exact absurd hm hpriv

/-- Two states have one mode and one setting of the bits that say who may poll and how. -/
def SameGrant (s t : State) : Prop :=
  t.priv = s.priv ∧ t.sseed = s.sseed ∧ t.useed = s.useed ∧ t.es.noiseTest = s.es.noiseTest

theorem step_keeps_grant {s u t : State} (hs : s.priv ≠ .m) (h : step u = .next t)
    (hu : SameGrant s u) : SameGrant s t := by
  obtain ⟨hpriv, hsseed, huseed, hnoise⟩ := hu
  obtain ⟨rd, v, rfl⟩ | ⟨-, rd, d, rfl⟩ := step_of_not_m h (hpriv ▸ hs)
  · exact ⟨hpriv, hsseed, huseed, hnoise⟩
  · exact ⟨hpriv, hsseed, huseed, (poll_noiseTest ..).trans hnoise⟩

/-- Settles O50: neither a computation nor a poll reaches the bits. -/
theorem lowerModesCannotGrantAccess : Obligations.LowerModesCannotGrantAccess := by
  intro k s t hrun hs
  obtain ⟨-, hbits⟩ := run_keeps (P := SameGrant s) (fun _ _ => step_keeps_grant hs) hrun
    ⟨rfl, rfl, rfl, rfl⟩
  exact hbits

/-! ## Without the grant -/

theorem step_of_denied {s t : State} (h : step s = .next t) (hd : s.seedDenied ≠ none) :
    ∃ rd v, t = s.retire rd v := by
  have hpriv : s.priv ≠ .m := fun hm => hd (seedDenied_of_m hm)
  obtain hcomputes | ⟨hnone, -⟩ := step_of_not_m h hpriv
  · exact hcomputes
  · exact absurd hnone hd

/-- Two states deny an access to `seed` alike and have one entropy source, polled as often. -/
def SameSource (s t : State) : Prop :=
  t.seedDenied = s.seedDenied ∧ t.es = s.es ∧ t.draws = s.draws

theorem step_keeps_source {s u t : State} (hs : s.seedDenied ≠ none) (h : step u = .next t)
    (hu : SameSource s u) : SameSource s t := by
  have hdenied : u.seedDenied = s.seedDenied := hu.1
  obtain ⟨rd, v, rfl⟩ := step_of_denied h (hdenied ▸ hs)
  exact hu

/-- Settles O51: in each of the four modes an access to `seed` is denied, so every step computes. -/
theorem ungrantedRunsLeaveTheSource : Obligations.UngrantedRunsLeaveTheSource := by
  intro k s t hrun hmode
  have hdenied : s.seedDenied ≠ none := by
    obtain ⟨hmode, hbit⟩ | ⟨hmode, hbit⟩ | hmode | hmode := hmode
    · rw [seedDenied_of_inMode hmode, hbit]
      nofun
    · rw [seedDenied_of_inMode hmode, hbit]
      nofun
    · rw [seedDenied_of_inMode hmode]
      cases s.sseed <;> nofun
    · rw [seedDenied_of_inMode hmode]
      cases s.sseed <;> nofun
  obtain ⟨-, hsource⟩ := run_keeps (P := SameSource s) (fun _ _ => step_keeps_source hdenied)
    hrun ⟨rfl, rfl, rfl⟩
  exact hsource

/-! ## DEAD -/

theorem poll_keeps_dead {s : State} (h : s.es.dead = true) (rd : Reg) (d : Draw) :
    (s.poll rd d).es.dead = true := by
  obtain hes | hes := poll_es_cases s rd d
  · rw [hes, h]
  · rw [hes]

/-- One case for the computational instructions and one for each CSR. -/
theorem step_keeps_dead {s t : State} (h : step s = .next t) (hs : s.es.dead = true) :
    t.es.dead = true := by
  obtain ⟨_, i, -, -, hexec⟩ := step_next h
  obtain ⟨-, -, v, rfl⟩ | ⟨f, rfl, hcsr⟩ := exec_next hexec
  · exact hs
  obtain ⟨-, -, -, rfl⟩ | ⟨-, -, rfl⟩ | ⟨-, -, rfl⟩ | ⟨-, -, rfl⟩ := hcsr
  case inl => exact poll_keeps_dead hs ..
  case inr.inl => rw [accessMseccfg_es, hs]
  case inr.inr.inl => exact hs
  case inr.inr.inr => rw [accessMnoise_dead, hs]

/-- Settles O52: every step keeps DEAD, and a dead source reports nothing else. -/
theorem deadIsFinal : Obligations.DeadIsFinal := by
  intro k s t hrun hs
  have hdead : t.es.dead = true :=
    run_keeps (P := fun u => u.es.dead = true) (fun _ _ => step_keeps_dead) hrun hs
  refine ⟨hdead, fun d => ?_⟩
  have hstatus : seedOpst (pollWord t.cfg t.es d) = 0b11 := seedOpst_pollWord_of_dead d hdead
  exact ⟨hstatus, seedEntropy_pollWord_of_failure t.cfg t.es d (by rw [hstatus]; decide)⟩

end Sys2Proof.Proofs
end

section
/-! Zkt and the outcome of an instruction (spec/46_zkt.md R249). Setting or clearing the flag commutes with
every operation a meaning is made of, and so with `exec`. -/

namespace Sys2Proof.Proofs

open Sys2Proof.Machine Sys2Proof.Laws

/-- An outcome with Zkt in or out of `EXT` in the next state, if there is one. -/
def outcomeWithZkt (b : Bool) :
    Host.Outcome State Fault Refusal → Host.Outcome State Fault Refusal
  | .next t => .next (t.withZkt b)
  | .fault r => .fault r
  | .refused r => .refused r

/-! ## What a configuration has -/

/-- No instruction belongs to Zkt: the extension adds none (R240). -/
theorem zkt_notMem_extensions (i : Instr) : ExtName.zkt ∉ i.extensions := by
  cases i <;> simp [Instr.extensions]

section

variable (s : State) (b : Bool)

theorem has_withZkt {n : ExtName} (h : n ≠ .zkt) :
    (s.withZkt b).cfg.ext.has n = s.cfg.ext.has n := by
  cases n with
  | zkt => exact absurd rfl h
  | zbkb | zbkc | zbkx | zknd | zkne | zknh | zksed | zksh | zkr => rfl

theorem inExt_withZkt (i : Instr) : i.inExt (s.withZkt b).cfg.ext = i.inExt s.cfg.ext := by
  have hhas : ∀ n ∈ i.extensions, (s.withZkt b).cfg.ext.has n = s.cfg.ext.has n :=
    fun _ hn => has_withZkt s b (ne_of_mem_of_not_mem hn (zkt_notMem_extensions i))
  have hany : i.extensions.any (s.withZkt b).cfg.ext.has = i.extensions.any s.cfg.ext.has := by
    rw [Bool.eq_iff_iff, List.any_eq_true, List.any_eq_true]
    exact exists_congr fun n => and_congr_right fun hn => by rw [hhas n hn]
  rw [Instr.inExt, Instr.inExt, hany]

theorem csrAt_withZkt (a : CsrAddr) : (s.withZkt b).cfg.csrAt a = s.cfg.csrAt a := rfl

theorem operandsOk_withZkt (i : Instr) : i.operandsOk (s.withZkt b).cfg = i.operandsOk s.cfg := rfl

theorem wellFormed_withZkt (i : Instr) : i.wellFormed (s.withZkt b).cfg = i.wellFormed s.cfg := by
  have hxlen : (s.withZkt b).cfg.xlen = s.cfg.xlen := rfl
  rw [Instr.wellFormed, Instr.wellFormed, hxlen, inExt_withZkt, operandsOk_withZkt]

/-! ## The updates of the state -/

theorem retire_withZkt (rd : Reg) (v : XWord) :
    (s.withZkt b).retire rd v = (s.retire rd v).withZkt b := rfl

theorem poll_withZkt (rd : Reg) (d : Draw) : (s.withZkt b).poll rd d = (s.poll rd d).withZkt b := rfl

theorem accessMseccfg_withZkt (rd : Reg) (op : CsrOp) (field : BitVec 5) (src : XWord) :
    (s.withZkt b).accessMseccfg rd op field src = (s.accessMseccfg rd op field src).withZkt b := by
  unfold State.accessMseccfg
  split <;> rfl

theorem accessMseccfgh_withZkt (rd : Reg) :
    (s.withZkt b).accessMseccfgh rd = (s.accessMseccfgh rd).withZkt b := rfl

theorem accessMnoise_withZkt (rd : Reg) (op : CsrOp) (field : BitVec 5) (src : XWord) :
    (s.withZkt b).accessMnoise rd op field src = (s.accessMnoise rd op field src).withZkt b := rfl

/-! ## The shapes of a meaning -/

theorem raiseFrom_withZkt (e : Exception) (i : Instr) :
    raiseFrom e i (s.withZkt b) = outcomeWithZkt b (raiseFrom e i s) := rfl

theorem compute_withZkt (i : Instr) (v : XWord) :
    compute i v (s.withZkt b) = outcomeWithZkt b (compute i v s) := by
  cases hw : i.wellFormed s.cfg with
  | false =>
    have hw' : i.wellFormed (s.withZkt b).cfg = false := (wellFormed_withZkt ..).trans hw
    rw [compute_of_not hw, compute_of_not hw', raiseFrom_withZkt]
  | true =>
    have hw' : i.wellFormed (s.withZkt b).cfg = true := (wellFormed_withZkt ..).trans hw
    rw [compute_of_wellFormed hw, compute_of_wellFormed hw', retire_withZkt, outcomeWithZkt]

theorem machineOnly_withZkt (i : Instr) (t : State) :
    machineOnly i (s.withZkt b) (.next (t.withZkt b)) =
      outcomeWithZkt b (machineOnly i s (.next t)) := by
  by_cases hm : s.priv = .m
  · have hm' : (s.withZkt b).priv = .m := hm
    rw [machineOnly_of_m hm, machineOnly_of_m hm', outcomeWithZkt]
  · have hm' : (s.withZkt b).priv ≠ .m := hm
    rw [machineOnly_of_not_m hm, machineOnly_of_not_m hm', raiseFrom_withZkt]

theorem seedDenied_withZkt : (s.withZkt b).seedDenied = s.seedDenied := rfl

theorem seedAccess_withZkt (i : Instr) (op : CsrOp) (field : BitVec 5) (d : Draw) :
    seedAccess i op field d (s.withZkt b) = outcomeWithZkt b (seedAccess i op field d s) := by
  rw [seedAccess, seedAccess, seedDenied_withZkt]
  split
  · cases s.seedDenied with
    | some e => exact raiseFrom_withZkt ..
    | none => exact congrArg Host.Outcome.next (poll_withZkt ..)
  · exact raiseFrom_withZkt ..

/-! ## The instructions -/

/-- The value of a computational instruction is one value with the flag set and cleared: it is made of the
source registers at XLEN bits, and the flag changes neither the registers nor the width. -/
theorem exec_computational_withZkt {i : Instr} (h : i.isCsr = false) :
    ∃ v, exec i s = compute i v s ∧ exec i (s.withZkt b) = compute i v (s.withZkt b) := by
  cases i with
  | csrrw | csrrs | csrrc | csrrwi | csrrsi | csrrci => cases h
  | _ => exact ⟨_, rfl, rfl⟩

theorem source_withZkt (f : CsrForm) : f.source (s.withZkt b) = f.source s := rfl

/-- One case for each CSR an address may have, and one for an address without. -/
theorem exec_form_withZkt (f : CsrForm) :
    exec f.instr (s.withZkt b) = outcomeWithZkt b (exec f.instr s) := by
  cases hat : s.cfg.csrAt f.csr with
  | none =>
    rw [exec_form_of_none f s hat, exec_form_of_none f _ ((csrAt_withZkt ..).trans hat),
      raiseFrom_withZkt]
  | some n =>
    have hat' : (s.withZkt b).cfg.csrAt f.csr = some n := (csrAt_withZkt ..).trans hat
    cases n with
    | seed =>
      have hdraws : (s.withZkt b).draws = s.draws := rfl
      rw [exec_form_seed f s hat, exec_form_seed f _ hat', hdraws, seedAccess_withZkt]
    | mseccfg =>
      rw [exec_form_mseccfg f s hat, exec_form_mseccfg f _ hat', source_withZkt,
        accessMseccfg_withZkt, machineOnly_withZkt]
    | mseccfgh =>
      rw [exec_form_mseccfgh f s hat, exec_form_mseccfgh f _ hat', accessMseccfgh_withZkt,
        machineOnly_withZkt]
    | mnoise =>
      rw [exec_form_mnoise f s hat, exec_form_mnoise f _ hat', source_withZkt,
        accessMnoise_withZkt, machineOnly_withZkt]

theorem exec_withZkt (i : Instr) : exec i (s.withZkt b) = outcomeWithZkt b (exec i s) := by
  cases hc : i.isCsr with
  | false =>
    obtain ⟨v, hexec, hexec'⟩ := exec_computational_withZkt s b hc
    rw [hexec, hexec', compute_withZkt]
  | true =>
    obtain ⟨f, rfl⟩ := exists_form i hc
    exact exec_form_withZkt s b f

end

/-- Settles O48: the flag commutes with `exec`, which leaves a next state up to the flag and a fault as it
is. -/
theorem zktIsNotObservable : Obligations.ZktIsNotObservable := by
  intro i s b
  refine ⟨fun t h => ?_, fun r h => ?_⟩
  · rw [exec_withZkt, h, outcomeWithZkt]
  · rw [exec_withZkt, h, outcomeWithZkt]

end Sys2Proof.Proofs
end

section
/-! The exceptions an instruction raises (spec/60_exceptions.md R250 to R253). `TrapCause` lists their causes
once; every instruction completes or has a cause, and what has a cause traps, so the list is exact. -/

namespace Sys2Proof.Proofs

open Sys2Proof.Machine Sys2Proof.Laws

/-! ## The CSR at an address -/

theorem csrAt_eq_seed_iff {c : Config} {a : CsrAddr} :
    c.csrAt a = some .seed ↔ a = 0x015 ∧ c.ext.zkr = true := by
  constructor
  · intro hat
    have ha : a = 0x015 := by_contra fun hne => csrAt_ne_seed hne hat
    cases hzkr : c.ext.zkr with
    | false => rw [ha, csrAt_seed_of_not_zkr hzkr] at hat; cases hat
    | true => exact ⟨ha, rfl⟩
  · rintro ⟨rfl, hzkr⟩
    exact csrAt_seed hzkr

theorem ne_seed_address_of_csrAt {c : Config} {a : CsrAddr} (hseed : c.csrAt a ≠ some .seed)
    (hsome : c.csrAt a ≠ none) : a ≠ 0x015 := by
  rintro rfl
  cases hzkr : c.ext.zkr with
  | false => exact hsome (csrAt_seed_of_not_zkr hzkr)
  | true => exact hseed (csrAt_seed hzkr)

/-- An address other than that of `seed` that has a CSR is one of the three the configuration gives. -/
theorem machine_address_of_csrAt {c : Config} {a : CsrAddr} (ha : a ≠ 0x015) (hsome : c.csrAt a ≠ none) :
    a = c.mseccfgAddr ∨ a = c.mseccfghAddr ∨ c.mnoise = some a := by
  have hseed : a ≠ seedAddr := ha
  by_contra hnone
  obtain ⟨hlow, hhigh, hmnoise⟩ :
      a ≠ c.mseccfgAddr ∧ a ≠ c.mseccfghAddr ∧ c.mnoise ≠ some a := by simpa only [not_or] using hnone
  exact hsome (by rw [Config.csrAt, if_neg hseed, if_neg hlow, if_neg (fun h => hhigh h.1), if_neg hmnoise])

/-! ## The grant (R214) -/

theorem seedDenied_eq_virtual_iff {s : State} : s.seedDenied = some .virtualInstruction ↔
    (s.inMode .vs ∨ s.inMode .vu) ∧ s.sseed = true := by
  cases hpriv : s.priv with
  | m => simp [State.seedDenied, State.inMode, hpriv]
  | s | u => cases hvirt : s.virt <;> simp [State.seedDenied, State.inMode, hpriv, hvirt]

theorem seedDenied_eq_illegal_iff {s : State} : s.seedDenied = some .illegalInstruction ↔
    (s.priv = .s ∧ s.sseed = false) ∨ (s.priv = .u ∧ s.virt = false ∧ s.useed = false) ∨
      (s.priv = .u ∧ s.virt = true ∧ s.sseed = false) := by
  cases hpriv : s.priv with
  | m => simp [State.seedDenied, hpriv]
  | s | u => cases hvirt : s.virt <;> simp [State.seedDenied, hpriv, hvirt]

/-! ## The causes -/

/-- Why an instruction raises an exception in a state (R251, R252). -/
inductive TrapCause (i : Instr) (s : State) : Exception → Prop where
  /-- It does not exist here or holds a reserved operand (R251 I1, I5, I7). -/
  | notWellFormed (hwf : i.wellFormed s.cfg = false) : TrapCause i s .illegalInstruction
  /-- It is a read-only form on `seed` (R251 I2). -/
  | seedRead (f : CsrForm) (hi : i = f.instr) (hat : s.cfg.csrAt f.csr = some .seed)
      (hr : f.isWrite = false) : TrapCause i s .illegalInstruction
  /-- It is a read-write form on `seed` in a mode without the grant (R251 I3, I4; R252). -/
  | seedDenied (f : CsrForm) (hi : i = f.instr) (hat : s.cfg.csrAt f.csr = some .seed)
      (hw : f.isWrite = true) {e : Exception} (hd : s.seedDenied = some e) : TrapCause i s e
  /-- It reaches a machine CSR outside M mode (R251 I8). -/
  | machineCsr (f : CsrForm) (hi : i = f.instr) (hseed : s.cfg.csrAt f.csr ≠ some .seed)
      (hsome : s.cfg.csrAt f.csr ≠ none) (hpriv : s.priv ≠ .m) : TrapCause i s .illegalInstruction

theorem traps_of_not_wellFormed {i : Instr} {s : State} (hwf : i.wellFormed s.cfg = false) :
    traps i s .illegalInstruction := by
  cases hi : i.isCsr with
  | false =>
    obtain ⟨v, hexec⟩ := exec_computational i hi s
    rw [traps, hexec, compute_of_not hwf, raiseFrom_eq]
  | true =>
    obtain ⟨f, rfl⟩ := exists_form i hi
    rw [wellFormed_form, Option.isSome_eq_false_iff, Option.isNone_iff_eq_none] at hwf
    exact traps_of_absent hwf

/-- What has a cause traps. -/
theorem TrapCause.traps {i : Instr} {s : State} {e : Exception} (h : TrapCause i s e) : traps i s e := by
  cases h with
  | notWellFormed hwf => exact traps_of_not_wellFormed hwf
  | seedRead f hi hat hr =>
    obtain ⟨hcsr, hzkr⟩ := csrAt_eq_seed_iff.1 hat
    exact hi ▸ traps_seed_of_read hcsr hzkr hr
  | seedDenied f hi hat hw hd =>
    obtain ⟨hcsr, hzkr⟩ := csrAt_eq_seed_iff.1 hat
    exact hi ▸ traps_seed_of_denied hcsr hzkr hw hd
  | machineCsr f hi hseed hsome hpriv =>
    have hcsr := ne_seed_address_of_csrAt hseed hsome
    exact hi ▸ machineCsrsTrapOutsideM f s hpriv hcsr (machine_address_of_csrAt hcsr hsome)

/-- A form on `seed`: its encoding first, then the mode (R215). -/
theorem form_completes_or_cause_of_seed {f : CsrForm} {s : State} (hat : s.cfg.csrAt f.csr = some .seed) :
    (∃ t, exec f.instr s = .next t) ∨ ∃ e, TrapCause f.instr s e := by
  cases hw : f.isWrite with
  | false => exact .inr ⟨_, .seedRead f rfl hat hw⟩
  | true =>
    cases hd : s.seedDenied with
    | some e => exact .inr ⟨e, .seedDenied f rfl hat hw hd⟩
    | none => exact .inl ⟨_, exec_form_seed_of_granted hat hw hd⟩

/-- A form on a machine CSR completes in M mode. -/
theorem form_completes_of_m {f : CsrForm} {s : State} (hseed : s.cfg.csrAt f.csr ≠ some .seed)
    (hsome : s.cfg.csrAt f.csr ≠ none) (hm : s.priv = .m) : ∃ t, exec f.instr s = .next t := by
  cases hat : s.cfg.csrAt f.csr with
  | none => exact absurd hat hsome
  | some n =>
    cases n with
    | seed => exact absurd hat hseed
    | mseccfg => exact ⟨_, exec_mseccfg_of_m hat hm⟩
    | mseccfgh => exact ⟨_, (exec_form_mseccfgh f s hat).trans (machineOnly_of_m hm ..)⟩
    | mnoise => exact ⟨_, exec_mnoise_of_m hat hm⟩

/-- The list of causes is complete. -/
theorem completes_or_cause (i : Instr) (s : State) :
    (∃ t, exec i s = .next t) ∨ ∃ e, TrapCause i s e := by
  cases hwf : i.wellFormed s.cfg with
  | false => exact .inr ⟨_, .notWellFormed hwf⟩
  | true =>
    cases hi : i.isCsr with
    | false =>
      obtain ⟨v, hexec⟩ := exec_computational i hi s
      exact .inl ⟨_, hexec.trans (compute_of_wellFormed hwf)⟩
    | true =>
      obtain ⟨f, rfl⟩ := exists_form i hi
      have hsome : s.cfg.csrAt f.csr ≠ none := Option.isSome_iff_ne_none.1 (wellFormed_form f _ ▸ hwf)
      by_cases hseed : s.cfg.csrAt f.csr = some .seed
      · exact form_completes_or_cause_of_seed hseed
      by_cases hm : s.priv = .m
      · exact .inl (form_completes_of_m hseed hsome hm)
      · exact .inr ⟨_, .machineCsr f rfl hseed hsome hm⟩

theorem traps_unique {i : Instr} {s : State} {e e' : Exception} (h : traps i s e) (h' : traps i s e') :
    e = e' := by
  cases h.symm.trans h'
  rfl

/-- An instruction raises an exception exactly when it has a cause for it. -/
theorem traps_iff_cause {i : Instr} {s : State} {e : Exception} : traps i s e ↔ TrapCause i s e := by
  refine ⟨fun h => ?_, TrapCause.traps⟩
  obtain ⟨t, hnext⟩ | ⟨e', hcause⟩ := completes_or_cause i s
  · exact absurd hnext (not_next_of_traps h)
  · exact traps_unique hcause.traps h ▸ hcause

/-! ## The statements about the two exceptions -/

/-- Settles O9: an instruction that does not complete has a cause, of one exception or the other. -/
theorem execOnlyTraps : Obligations.ExecOnlyTraps := by
  intro i s
  obtain hnext | ⟨e, hcause⟩ := completes_or_cause i s
  · exact .inl hnext
  · cases e with
    | illegalInstruction => exact .inr (.inl hcause.traps)
    | virtualInstruction => exact .inr (.inr hcause.traps)

/-- The one cause of VirtualInstruction (R252). -/
theorem traps_virtual_iff {i : Instr} {s : State} : traps i s .virtualInstruction ↔
    ∃ f : CsrForm, i = f.instr ∧ f.csr = 0x015 ∧ s.cfg.ext.zkr = true ∧ f.isWrite = true ∧
      (s.inMode .vs ∨ s.inMode .vu) ∧ s.sseed = true := by
  rw [traps_iff_cause]
  constructor
  · intro hcause
    cases hcause with
    | seedDenied f hi hat hw hd =>
      obtain ⟨hcsr, hzkr⟩ := csrAt_eq_seed_iff.1 hat
      exact ⟨f, hi, hcsr, hzkr, hw, seedDenied_eq_virtual_iff.1 hd⟩
  · rintro ⟨f, hi, hcsr, hzkr, hw, hguest⟩
    exact .seedDenied f hi (csrAt_eq_seed_iff.2 ⟨hcsr, hzkr⟩) hw (seedDenied_eq_virtual_iff.2 hguest)

/-- A read-only form at 0x015 is refused in every mode, with Zkr by its encoding and without it because
the address has no CSR. -/
theorem traps_of_read_at_seed {f : CsrForm} (s : State) (hcsr : f.csr = 0x015) (hr : f.isWrite = false) :
    traps f.instr s .illegalInstruction := by
  cases hzkr : s.cfg.ext.zkr with
  | false => exact seedWithoutZkrTraps f s hcsr hzkr
  | true => exact traps_seed_of_read hcsr hzkr hr

/-- Settles O10: the one cause, the read-only forms, and the invariant, which lets VS and VU exist only with
the hypervisor extension. -/
theorem virtualInstructionExactly : Obligations.VirtualInstructionExactly := by
  refine ⟨fun _ _ => traps_virtual_iff, fun f s hcsr hr _ => traps_of_read_at_seed s hcsr hr, ?_⟩
  intro i s hinv htrap
  obtain ⟨-, -, -, -, -, hguest, -⟩ := traps_virtual_iff.1 htrap
  have hvirt : s.virt = true := hguest.elim And.right And.right
  obtain ⟨-, -, hmode⟩ := hinv.mode
  exact (hmode hvirt).1

/-- A form on `seed` without the grant raises IllegalInstruction, whether it writes or not. -/
theorem cause_of_not_granted {f : CsrForm} {s : State} (hat : s.cfg.csrAt f.csr = some .seed)
    (hd : s.seedDenied = some .illegalInstruction) : TrapCause f.instr s .illegalInstruction := by
  cases hw : f.isWrite with
  | false => exact .seedRead f rfl hat hw
  | true => exact .seedDenied f rfl hat hw hd

/-- Settles O11: one case for each cause; the denied accesses are the three refusals of the grant. -/
theorem illegalInstructionExactly : Obligations.IllegalInstructionExactly := by
  intro i s
  rw [traps_iff_cause]
  constructor
  · intro hcause
    cases hcause with
    | notWellFormed hwf => exact .inl hwf
    | seedRead f hi hat hr => exact .inr ⟨f, hi, .inl ⟨hat, hr⟩⟩
    | seedDenied f hi hat hw hd =>
      obtain hgrant | hgrant | hgrant := seedDenied_eq_illegal_iff.1 hd
      · exact .inr ⟨f, hi, .inr (.inl ⟨hat, hgrant⟩)⟩
      · exact .inr ⟨f, hi, .inr (.inr (.inl ⟨hat, hgrant⟩))⟩
      · exact .inr ⟨f, hi, .inr (.inr (.inr (.inl ⟨hat, hgrant⟩)))⟩
    | machineCsr f hi hseed hsome hpriv =>
      exact .inr ⟨f, hi, .inr (.inr (.inr (.inr ⟨hseed, hsome, hpriv⟩)))⟩
  · rintro (hwf | ⟨f, rfl, ⟨hat, hr⟩ | ⟨hat, hgrant⟩ | ⟨hat, hgrant⟩ | ⟨hat, hgrant⟩ |
      ⟨hseed, hsome, hpriv⟩⟩)
    · exact .notWellFormed hwf
    · exact .seedRead f rfl hat hr
    · exact cause_of_not_granted hat (seedDenied_eq_illegal_iff.2 (.inl hgrant))
    · exact cause_of_not_granted hat (seedDenied_eq_illegal_iff.2 (.inr (.inl hgrant)))
    · exact cause_of_not_granted hat (seedDenied_eq_illegal_iff.2 (.inr (.inr hgrant)))
    · exact .machineCsr f rfl hseed hsome hpriv

end Sys2Proof.Proofs
end

section
/-! What an instruction reaches beyond registers and `pc` (spec/60_exceptions.md R265, R272), and what reset
leaves (spec/70_reset_and_hazards.md R281 to R286). -/

namespace Sys2Proof.Proofs

open Sys2Proof.Machine Sys2Proof.Laws

/-! ## Computation and the mode -/

theorem compute_eq_next_iff {i : Instr} {v : XWord} {s t : State} :
    compute i v s = .next t ↔ i.wellFormed s.cfg = true ∧ s.retire i.rd v = t := by
  cases hwf : i.wellFormed s.cfg with
  | false => simp [compute_of_not hwf, raiseFrom_eq]
  | true => simp [compute_of_wellFormed hwf]

theorem retire_withPrivilege (s : State) (p : Priv) (v a b : Bool) (es : EntropySource) (rd : Reg)
    (x : XWord) :
    (s.withPrivilege p v a b es).retire rd x = (s.retire rd x).withPrivilege p v a b es := rfl

/-- Settles O47: the value depends on the source registers and the width, whether the instruction exists on
the configuration, and the write commutes with the replacement. -/
theorem computationIgnoresMode : Obligations.ComputationIgnoresMode := by
  intro i s t p v a b es hi h
  obtain ⟨value, hvalue, hexec⟩ := exec_computational_dependsOn i hi
  have hsame : value (s.withPrivilege p v a b es) = value s := hvalue s _ rfl fun _ _ => rfl
  rw [hexec, compute_eq_next_iff] at h
  obtain ⟨hwf, rfl⟩ := h
  rw [hexec, compute_eq_next_iff, hsame]
  exact ⟨hwf, retire_withPrivilege ..⟩

/-! ## Draws -/

@[simp] theorem instr_csrAddr? (f : CsrForm) : f.instr.csrAddr? = some f.csr := by
  obtain ⟨op, imm, rd, csr, field⟩ := f
  cases op <;> cases imm <;> rfl

/-- The instruction of a form determines its address. -/
theorem csr_eq_of_instr_eq {f g : CsrForm} (h : f.instr = g.instr) : f.csr = g.csr := by
  have haddr := congrArg Instr.csrAddr? h
  rwa [instr_csrAddr?, instr_csrAddr?, Option.some_inj] at haddr

/-- Settles O59: one case for the computational instructions and one for each CSR; the poll alone counts. -/
theorem drawsOnlyAtSeed : Obligations.DrawsOnlyAtSeed := by
  intro i s t h
  obtain ⟨hi, -, v, rfl⟩ | ⟨f, rfl, hcsr⟩ := exec_next h
  · refine .inr ⟨?_, retire_draws ..⟩
    rintro f rfl
    exact absurd (instr_isCsr f) (Bool.not_eq_true _ ▸ hi)
  have elsewhere {n : CsrName} (hat : s.cfg.csrAt f.csr = some n) (hn : n ≠ .seed) (g : CsrForm)
      (hg : f.instr = g.instr) : g.csr ≠ 0x015 := by
    rw [← csr_eq_of_instr_eq hg]
    exact ne_seed_address_of_csrAt (by rwa [hat, ne_eq, Option.some_inj]) (by rw [hat]; nofun)
  obtain ⟨hat, hw, -, rfl⟩ | ⟨hat, -, rfl⟩ | ⟨hat, -, rfl⟩ | ⟨hat, -, rfl⟩ := hcsr
  case inl => exact .inl ⟨f, rfl, (csrAt_eq_seed_iff.1 hat).1, hw, poll_draws ..⟩
  case inr.inl => exact .inr ⟨elsewhere hat nofun, accessMseccfg_draws ..⟩
  case inr.inr.inl => exact .inr ⟨elsewhere hat nofun, accessMseccfgh_draws ..⟩
  case inr.inr.inr => exact .inr ⟨elsewhere hat nofun, accessMnoise_draws ..⟩

/-! ## Reset -/

/-- Settles O55: `resetOf_inv` gives the invariant field by field, for any count of draws. -/
theorem invAtEveryReset : Obligations.InvAtEveryReset :=
  fun _ _ _ n => resetOf_inv n

/-- A bit that is masked by three conditions is its value where all three hold and 0 elsewhere. -/
theorem and_mask_eq_ite : ∀ bit p q r : Bool,
    (bit && (p && q && r)) = if p = true ∧ q = true ∧ r = true then bit else false := by
  decide

/-- Settles O53: reset writes the fields out, and an access bit is masked by its writability. -/
theorem resetLeaves : Obligations.ResetLeaves := by
  rintro c x m n _ rfl
  exact ⟨rfl, rfl, rfl, rfl, readX_zero _, rfl, rfl, rfl, and_mask_eq_ite .., and_mask_eq_ite ..⟩

end Sys2Proof.Proofs
end
